-- ==== Sys2Proof/Word.lean ====
section
/-!
DEFINITION. The word types of the idhider CORE and the field cuts of spec/00_scope.md R10: bit 0 is the least
significant bit, `v[hi:lo]` is the unsigned value of bits hi down to lo, all values are unsigned.
-/

namespace Sys2Proof

/-- A 32-bit bus word, register, cipher half or schedule word (R20, R28). -/
abbrev Word := BitVec 32

/-- A byte, and a character code (R10, R11). -/
abbrev Byte := BitVec 8

/-- The 64-bit Internal or Public ID (R22). -/
abbrev IdWord := BitVec 64

/-- An 8-byte block `b[0..7]`, `b[0]` first (R10, R23). -/
abbrev Block := Vector Byte 8

/-- The 16-byte character buffer `TXT[0..15]` (R24). -/
abbrev Text := Vector Byte 16

/-- The 56-byte key buffer `KEY[0..55]` (R26). -/
abbrev KeyBytes := Vector Byte 56

/-- The Blowfish P-array `P[0..17]` (R28). -/
abbrev PArray := Vector Word 18

/-- One Blowfish S-box of 256 words (R28). -/
abbrev SBox := Vector Word 256

/-- The four S-boxes `S[0..3]` (R28). -/
abbrev SBoxes := Vector SBox 4

end Sys2Proof
end

