-- ==== Sys2Proof/Config.lean ====
section
/-!
DEFINITION. What the platform or an implementation fixes, and the free values. Each `opaque` constant has no body:
nothing can evaluate it, so a claim holds whatever it is. A free value is applied to a draw number that State counts, so
that each draw is a fresh value.
-/

namespace Sys2Proof

/-- The window's base address in units of 0x80 bytes: `BASE` is an OPEN parameter and a multiple of 0x80
(spec/00_scope.md R9, spec/20_memory.md R51, D3). Log entry 3. -/
opaque Config.windowIndex : Nat

/-- `BASE`, aligned to 0x80 by construction (R51). -/
def Config.base : Nat := 0x80 * Config.windowIndex

/-- Whether the platform's bus can signal an error response (spec/20_memory.md R53, D4, A9). Log entry 4. -/
opaque Config.busSignalsErrors : Bool

/-- The value a read of a destination register returns while `BUSY = 1`, drawn fresh on each read
(spec/70_reset_and_hazards.md R232, A3). Log entry 5. -/
opaque Config.busyReadValue : Nat → Word

/-- The P-array a reset event leaves: unspecified (spec/10_state.md R28, R38, A5). Log entry 6. -/
opaque Config.resetPArray : Nat → PArray

/-- The S-boxes a reset event leaves: unspecified (R28, R38, A5). Log entry 6. -/
opaque Config.resetSBoxes : Nat → SBoxes

/-- The engine's command word after a reset event, `CUR_OP` in its low byte: unspecified (R36, R38, A6). Log entry 7. -/
opaque Config.resetCommandWord : Nat → Word

/-- The snapshot's `ID` after a reset event: unspecified (R36, R38, A6). Log entry 7. -/
opaque Config.resetSnapId : Nat → IdWord

/-- The snapshot's `BLK` after a reset event: unspecified (R36, R38, A6). Log entry 7. -/
opaque Config.resetSnapBlk : Nat → Block

/-- The snapshot's `TXT` after a reset event: unspecified (R36, R38, A6). Log entry 7. -/
opaque Config.resetSnapTxt : Nat → Text

/-- The snapshot's `TXTLEN.LEN` after a reset event: unspecified (R36, R38, A6). Log entry 7. -/
opaque Config.resetSnapTxtLen : Nat → Byte

/-- The snapshot's `KEY` after a reset event: unspecified (R36, R38, A6). Log entry 7. -/
opaque Config.resetSnapKey : Nat → KeyBytes

/-- The snapshot's `KEYLEN.LEN` after a reset event: unspecified (R36, R38, A6). Log entry 7. -/
opaque Config.resetSnapKeyLen : Nat → Byte

end Sys2Proof
end

