-- ==== Sys2Proof/Syntax.lean ====
section
/-!
DEFINITION. The commands of the core: one constructor of `Instr` per row of spec/opcode_table.json
(spec/30_encoding.md R71), and format `C`, the one layout of a command word (R70). A command has no operand field
(R70, R73), so no constructor has an argument.
-/

namespace Sys2Proof

/-- The eleven commands (R71). -/
inductive Instr
  /-- No operation; clears the error status (R190). -/
  | nop
  /-- Bind a key schedule (R100). -/
  | keyset
  /-- Serialize `ID` into `BLK` (R142). -/
  | tobytes
  /-- Deserialize `BLK` into `ID` (R143). -/
  | frombytes
  /-- Encrypt `BLK` (R108). -/
  | enc
  /-- Decrypt `BLK` (R109). -/
  | dec
  /-- Base-32 encode `BLK` into `TXT` (R154). -/
  | b32enc
  /-- Base-32 decode `TXT` into `BLK` (R155). -/
  | b32dec
  /-- Internal ID to Public ID (R170). -/
  | pubid
  /-- Internal ID to Human Public ID (R171). -/
  | hpubid
  /-- Human Public ID to Internal ID (R172). -/
  | htoid
deriving DecidableEq, Repr

/-- Format `C`: a command word cut into its two fields, `OPCODE` = bits [7:0] and `RSVD` = bits [31:8] (R70). -/
structure CommandWord where
  opcode : BitVec 8
  rsvd : BitVec 24
deriving DecidableEq, Repr

end Sys2Proof
end

