-- ==== Sys2Proof/Machine/State.lean ====
section
/-!
DEFINITION. The machine's state as plain data (spec/10_state.md), the outside world's events, the reasons a step can stop,
and the state right after reset (R38).
-/

namespace Sys2Proof.Machine

/-- `STATUS.ERRCODE` (R30). The reserved codes 7..15 are never produced (A11), so they have no constructor. -/
inductive ErrCode
  | none
  | invalidKeyLength
  | noKey
  | illegalCmd
  | decodeLength
  | decodeChar
  | decodeNoncanonical
deriving DecidableEq, Repr

/-- `raise E(info)`: the errors a command can end with, each with what R31 records about it (R203, R204). -/
inductive CmdError
  /-- `KEYLEN.LEN` is 0 or above 56 (R211). -/
  | invalidKeyLength (n : Byte)
  /-- No key is bound (R206). -/
  | noKey (op : Byte)
  /-- The command word is illegal (R205). -/
  | illegalCmd (b : Byte)
  /-- `TXTLEN.LEN` is not 13 (R208). -/
  | decodeLength (n : Byte)
  /-- The lowest index of a character outside the alphabet (R209). -/
  | decodeChar (j : Fin 13)
  /-- The pad bit of the last character is 1 (R210). -/
  | decodeNoncanonical
deriving DecidableEq, Repr

/-- The fields of `STATUS` (R29). The reserved bits hold nothing and read 0. -/
structure Status where
  /-- An accepted command has not completed. -/
  busy : Bool
  /-- The most recently completed command ended with an error. -/
  err : Bool
  /-- A key schedule is bound. -/
  keyValid : Bool
  /-- A host write arrived while `BUSY = 1` and was dropped. -/
  ovr : Bool
  /-- The error code of the most recently completed command, or none. -/
  errCode : ErrCode
  /-- Error information (R31), or 0. -/
  errInfo : Byte
deriving DecidableEq, Repr

/-- The key schedule: `P[0..17]` and `S[0..3][0..255]` (R28). -/
structure Schedule where
  p : PArray
  s : SBoxes
deriving DecidableEq, Repr

/-- The operand snapshot taken at acceptance (R36). It holds every operand register; a command uses those R73 lists for it
(log entry 10). -/
structure Snapshot where
  id : IdWord
  blk : Block
  txt : Text
  txtLen : Byte
  key : KeyBytes
  keyLen : Byte
deriving DecidableEq, Repr

/-- The registers of the window, one for each word slot (R20). -/
inductive Reg
  | cmd
  | status
  | keyLen
  | txtLen
  | idLo
  | idHi
  | blkLo
  | blkHi
  | txt (k : Fin 4)
  | version
  | key (k : Fin 14)
  | rsvd
deriving DecidableEq, Repr

/-- Where a host transaction goes: an offset inside the window, as the primitives of R52 take it, or a physical address,
which reaches the window only as R51 says. -/
inductive Target
  | offset (off : BitVec 7)
  | address (a : Nat)
deriving DecidableEq, Repr

/-- What can happen next (R16, R59): a host transaction, the engine's turn, or an edge of the reset input (R230). A
`width` is in bytes. -/
inductive Event
  | write (t : Target) (width : Nat) (v : Word)
  | read (t : Target) (width : Nat)
  | engine
  | resetAssert
  | resetRelease
deriving DecidableEq, Repr

/-- The bus response to a host transaction: the word a read returns, and whether the bus signals an error (R52, R53). -/
structure Reply where
  data : Option Word
  busError : Bool
deriving DecidableEq, Repr

/-- The machine (R20 to R38), and the model's own fields `inbox`, `reply` and `draws` (log entries 1, 2, 5). -/
structure State where
  /-- `ID` (R22). -/
  id : IdWord
  /-- `BLK[0..7]` (R23). -/
  blk : Block
  /-- `TXT[0..15]` (R24). -/
  txt : Text
  /-- `TXTLEN.LEN` (R25). -/
  txtLen : Byte
  /-- `KEY[0..55]` (R26). -/
  key : KeyBytes
  /-- `KEYLEN.LEN` (R27). -/
  keyLen : Byte
  /-- `STATUS` (R29). -/
  status : Status
  /-- The key schedule (R28). -/
  sched : Schedule
  /-- The command word in flight; its low byte is `CUR_OP` (R36, R201). -/
  cmdWord : Word
  /-- The operand snapshot (R36). -/
  snap : Snapshot
  /-- The reset input is asserted (R230). -/
  resetHeld : Bool
  /-- Model's own: what has yet to happen, in order (R59). -/
  inbox : List Event
  /-- Model's own: the bus response to the latest host transaction. -/
  reply : Option Reply
  /-- Model's own: how many free values have been drawn. -/
  draws : Nat
deriving DecidableEq, Repr

/-- `CUR_OP`: the opcode of the accepted command (R36, R200). -/
def State.curOp (s : State) : Byte := s.cmdWord.extractLsb' 0 8

/-- The faults that stop the machine: none. Every accepted command completes, every access has an outcome, and no
behaviour of the core is stuck (spec/93_implementation_defined.md, end of Part A), so no one raises a fault. -/
inductive Fault
deriving DecidableEq, Repr

/-- The refusals of a step. -/
inductive Refusal
  /-- An instruction without a meaning. No arm of `exec` raises it: every command is modelled. Safe where raised. -/
  | notModelled (mnemonic : String)
deriving DecidableEq, Repr

/-- `STATUS = 0x00000000` (R29, R230). -/
def Status.reset : Status :=
  { busy := false, err := false, keyValid := false, ovr := false, errCode := .none, errInfo := 0 }

/-- The key schedule of `State.reset`: the spec leaves it unspecified (R28, R38). DESIGN CHOICE zero, unsafe, log entry 6. -/
def Schedule.reset : Schedule :=
  { p := Vector.replicate 18 0, s := Vector.replicate 4 (Vector.replicate 256 0) }

/-- The snapshot of `State.reset`: the spec leaves it unspecified (R36, R38). DESIGN CHOICE zero, unsafe, log entry 7. -/
def Snapshot.reset : Snapshot :=
  { id := 0, blk := Vector.replicate 8 0, txt := Vector.replicate 16 0, txtLen := 0,
    key := Vector.replicate 56 0, keyLen := 0 }

/-- The machine right after reset is released (R38, R230). `sched`, `cmdWord` and `snap` are named values (log entries 6
and 7); nothing has happened yet and nothing is pending (log entry 11). -/
def State.reset : State :=
  { id := 0
    blk := Vector.replicate 8 0
    txt := Vector.replicate 16 0
    txtLen := 0
    key := Vector.replicate 56 0
    keyLen := 0
    status := .reset
    sched := .reset
    cmdWord := 0
    snap := .reset
    resetHeld := false
    inbox := []
    reply := none
    draws := 0 }

end Sys2Proof.Machine
end

