-- ==== Sys2Proof/Machine/Cipher.lean ====
section
/-!
DEFINITION. The block cipher of spec/40_block_transform.md section 2 (R103 to R107, R110, R112): Blowfish, 16 rounds,
big-endian 32-bit halves. All arithmetic is on unsigned 32-bit words; `+` wraps.
-/

namespace Sys2Proof.Machine

/-- Byte `x[8k+7:8k]` of a word, as an S-box index (R110, R112). -/
def byteOfWord (x : Word) (k : Nat) : Byte := x.extractLsb' (8 * k) 8

/-- `S[m][b]` (R110). -/
def sboxAt (s : SBoxes) (m : Fin 4) (b : Byte) : Word := (s[m])[b.toNat]

/-- The round function `F(S, x)` (R110). -/
def roundF (s : SBoxes) (x : Word) : Word :=
  ((sboxAt s 0 (byteOfWord x 3) + sboxAt s 1 (byteOfWord x 2)) ^^^ sboxAt s 2 (byteOfWord x 1))
    + sboxAt s 3 (byteOfWord x 0)

/-- One round of R104 and R105 with round word `k`, on the halves `(l, r)`, its swap included. -/
def feistelRound (s : SBoxes) (x : Word × Word) (k : Word) : Word × Word :=
  let l := x.1 ^^^ k
  let r := x.2 ^^^ roundF s l
  (r, l)

/-- The rounds over a list of round words, first word first. -/
def feistelRounds (s : SBoxes) (ks : List Word) (x : Word × Word) : Word × Word :=
  ks.foldl (feistelRound s) x

/-- The halves swapped back, then the two whitening words: `r ^ kr`, `l ^ kl` (R104, R105). -/
def whiten (kr kl : Word) (x : Word × Word) : Word × Word :=
  (x.2 ^^^ kl, x.1 ^^^ kr)

/-- `P[0], ..., P[15]`: the round words of R104 in order. -/
def encRoundWords (p : PArray) : List Word := p.toList.take 16

/-- `P[17], ..., P[2]`: the round words of R105 in order. -/
def decRoundWords (p : PArray) : List Word := (p.toList.drop 2).reverse

/-- `BF_EncLR(P, S, l, r)` (R104). -/
def bfEncLR (k : Schedule) (x : Word × Word) : Word × Word :=
  whiten k.p[16] k.p[17] (feistelRounds k.s (encRoundWords k.p) x)

/-- `BF_DecLR(P, S, l, r)` (R105). -/
def bfDecLR (k : Schedule) (x : Word × Word) : Word × Word :=
  whiten k.p[1] k.p[0] (feistelRounds k.s (decRoundWords k.p) x)

/-- The two halves of a block, each read big-endian: `b[0]` is `l[31:24]`, `b[4]` is `r[31:24]` (R106). -/
def halvesOfBlock (b : Block) : Word × Word :=
  (b[0] ++ b[1] ++ b[2] ++ b[3], b[4] ++ b[5] ++ b[6] ++ b[7])

/-- The block of two halves, each written big-endian (R106). -/
def blockOfHalves (x : Word × Word) : Block :=
  #v[byteOfWord x.1 3, byteOfWord x.1 2, byteOfWord x.1 1, byteOfWord x.1 0,
     byteOfWord x.2 3, byteOfWord x.2 2, byteOfWord x.2 1, byteOfWord x.2 0]

/-- `Encrypt(b)` under the schedule `k` (R106). -/
def encryptBlock (k : Schedule) (b : Block) : Block := blockOfHalves (bfEncLR k (halvesOfBlock b))

/-- `Decrypt(b)` under the schedule `k` (R107). -/
def decryptBlock (k : Schedule) (b : Block) : Block := blockOfHalves (bfDecLR k (halvesOfBlock b))

/-- The four key bytes from index `j` on, cycled, each shifted in at the low end, and the next index (R103). -/
def nextKeyWord (key : List Byte) (j : Nat) : Word × Nat :=
  (List.range 4).foldl
    (fun x _ => ((x.1 <<< 8) ||| (key.getD x.2 0).setWidth 32, (x.2 + 1) % key.length)) (0, j)

/-- The first loop of R103: XOR the key, cycled, into P. -/
def mixKey (key : List Byte) (p : PArray) : PArray :=
  ((List.finRange 18).foldl
    (fun x i =>
      let d := nextKeyWord key x.2
      (x.1.set i (x.1[i] ^^^ d.1), d.2)) (p, 0)).1

/-- One step of the P phase of R103: encrypt the chained halves and store them at `P[2i]`, `P[2i+1]`. -/
def fillPStep (x : Schedule × (Word × Word)) (i : Fin 9) : Schedule × (Word × Word) :=
  let lr := bfEncLR x.1 x.2
  ({ x.1 with p := (x.1.p.set (2 * i.val) lr.1 (by omega)).set (2 * i.val + 1) lr.2 (by omega) }, lr)

/-- One step of the S phase of R103: encrypt the chained halves and store them at `S[m][2i]`, `S[m][2i+1]`. -/
def fillSStep (m : Fin 4) (x : Schedule × (Word × Word)) (i : Fin 128) : Schedule × (Word × Word) :=
  let lr := bfEncLR x.1 x.2
  let box := ((x.1.s[m]).set (2 * i.val) lr.1 (by omega)).set (2 * i.val + 1) lr.2 (by omega)
  ({ x.1 with s := x.1.s.set m box }, lr)

/-- The P phase of R103, from `(l, r) = (0, 0)`. -/
def fillP (k : Schedule) : Schedule × (Word × Word) :=
  (List.finRange 9).foldl fillPStep (k, (0, 0))

/-- The S phase of R103: `S[0]`, `S[1]`, `S[2]`, `S[3]`; the chain carries over from the P phase. -/
def fillS (x : Schedule × (Word × Word)) : Schedule × (Word × Word) :=
  (List.finRange 4).foldl (fun y m => (List.finRange 128).foldl (fillSStep m) y) x

/-- `BF_Schedule(k[0..n-1])` for a key of 1 to 56 bytes (R103). -/
def bfSchedule (key : List Byte) : Schedule :=
  (fillS (fillP { p := mixKey key pInit, s := sInit })).1

end Sys2Proof.Machine
end

