-- ==== Sys2Proof/WellFormed.lean ====
section
/-!
DEFINITION. Which command words are well formed (spec/30_encoding.md R70 to R72): `RSVD` is 0 and `OPCODE` is one of
the eleven assigned values. An `Instr` has no operand, so every term of it is well formed; the two checks are on the
fields of the command word.
-/

namespace Sys2Proof

/-- The eleven opcodes of R71, in the table's order. -/
def assignedOpcodes : List Byte :=
  [0x00, 0x01, 0x10, 0x11, 0x20, 0x21, 0x30, 0x31, 0x40, 0x41, 0x42]

/-- The first case of R72: the reserved bits must be 0. -/
def CommandWord.rsvdClear (c : CommandWord) : Bool :=
  c.rsvd == 0

/-- The second case of R72: the opcode is one of the eleven. -/
def CommandWord.opcodeAssigned (c : CommandWord) : Bool :=
  assignedOpcodes.contains c.opcode

/-- A command word is legal when both checks pass; every other word is illegal (R72). -/
def CommandWord.wellFormed (c : CommandWord) : Bool :=
  c.rsvdClear && c.opcodeAssigned

/-- A command has no operand field (R70), so no term of `Instr` can be ill formed. -/
def Instr.wellFormed : Instr → Bool
  | .nop => true
  | .keyset => true
  | .tobytes => true
  | .frombytes => true
  | .enc => true
  | .dec => true
  | .b32enc => true
  | .b32dec => true
  | .pubid => true
  | .hpubid => true
  | .htoid => true

end Sys2Proof
end

