-- ==== Sys2Proof/Decode.lean ====
section
/-!
DEFINITION. Decoding of a command word (spec/30_encoding.md R70 to R72), total on any word and on any bytes and
rejecting by name, and the encoder written from the same table (R71). One format, one length: a word is legal only when it
equals one of the eleven opcode values exactly.
-/

namespace Sys2Proof

/-- Why bytes are no legal command. -/
inductive Illegal
  /-- `RSVD != 0`, whatever the opcode (R72). -/
  | reservedBits
  /-- `RSVD = 0` and the opcode is none of R71's eleven (R72). -/
  | unassignedOpcode (op : Byte)
  /-- Not the four bytes of one 32-bit command word (R70, R53). -/
  | notOneWord
deriving DecidableEq, Repr

/-- Cut a command word into the fields of format `C` (R70). -/
def CommandWord.ofWord (v : Word) : CommandWord :=
  { opcode := v.extractLsb' 0 8, rsvd := v.extractLsb' 8 24 }

/-- The opcode map of R71. -/
def instrOfOpcode (op : Byte) : Option Instr :=
  match op with
  | 0x00#8 => some .nop
  | 0x01#8 => some .keyset
  | 0x10#8 => some .tobytes
  | 0x11#8 => some .frombytes
  | 0x20#8 => some .enc
  | 0x21#8 => some .dec
  | 0x30#8 => some .b32enc
  | 0x31#8 => some .b32dec
  | 0x40#8 => some .pubid
  | 0x41#8 => some .hpubid
  | 0x42#8 => some .htoid
  | _ => none

/-- Decode a command word (R70 to R72). -/
def decode (v : Word) : Except Illegal Instr :=
  let c := CommandWord.ofWord v
  if c.rsvdClear then
    match instrOfOpcode c.opcode with
    | some i => .ok i
    | none => .error (.unassignedOpcode c.opcode)
  else .error .reservedBits

/-- Four bytes at ascending byte addresses as a bus word: the byte at `off + m` is lane m (spec/20_memory.md R54). -/
def wordOfLanes (b0 b1 b2 b3 : Byte) : Word :=
  b3 ++ b2 ++ b1 ++ b0

/-- Decode the bytes of a command word, lowest address first: exactly one word, since one 32-bit access to `CMD` presents
a command (R70, spec/20_memory.md R53, R54). -/
def decodeBytes (bs : List Byte) : Except Illegal Instr :=
  match bs with
  | [b0, b1, b2, b3] => decode (wordOfLanes b0 b1 b2 b3)
  | _ => .error .notOneWord

/-- The low `n` bytes of `w`, lowest address first. -/
def littleEndianBytes (n w : Nat) : List Byte :=
  (List.range n).map fun k => BitVec.ofNat 8 (w >>> (8 * k))

/-- What the decoder reads from an instruction whose `nbits` bits are `w`, bit 0 the least significant; the bits above
`nbits` are 0. A value that needs more than 32 bits is no command word (R70). -/
def decodeTableWord (nbits w : Nat) : Option Instr :=
  let v := w % 2 ^ nbits
  if v < 2 ^ 32 then (decodeBytes (littleEndianBytes 4 v)).toOption else none

/-- The opcode of each command (R71). -/
def opcodeOf (i : Instr) : Byte :=
  match i with
  | .nop => 0x00
  | .keyset => 0x01
  | .tobytes => 0x10
  | .frombytes => 0x11
  | .enc => 0x20
  | .dec => 0x21
  | .b32enc => 0x30
  | .b32dec => 0x31
  | .pubid => 0x40
  | .hpubid => 0x41
  | .htoid => 0x42

/-- The command word of a command: `OPCODE` low, `RSVD` 0 (R70, R71). -/
def encode (i : Instr) : Word :=
  (0#24 : BitVec 24) ++ opcodeOf i

/-- The bytes of a command word, lowest address first (R54). -/
def encodeBytes (i : Instr) : List Byte :=
  littleEndianBytes 4 (encode i).toNat

end Sys2Proof
end

