-- ==== Sys2Proof/Machine/Flags.lean ====
section
/-!
DEFINITION. `STATUS`: its word (spec/10_state.md R29), its error codes and error information (R30, R31), and every update
of its fields (R37, spec/60_exceptions.md R200, R201, R203). No other flag exists (R37).
-/

namespace Sys2Proof.Machine

/-- The 4-bit codes of R30. -/
def errCodeBits (c : ErrCode) : BitVec 4 :=
  match c with
  | .none => 0
  | .invalidKeyLength => 1
  | .noKey => 2
  | .illegalCmd => 3
  | .decodeLength => 4
  | .decodeChar => 5
  | .decodeNoncanonical => 6

/-- The code `raise` records (R203, R204). -/
def errorCode (e : CmdError) : ErrCode :=
  match e with
  | .invalidKeyLength _ => .invalidKeyLength
  | .noKey _ => .noKey
  | .illegalCmd _ => .illegalCmd
  | .decodeLength _ => .decodeLength
  | .decodeChar _ => .decodeChar
  | .decodeNoncanonical => .decodeNoncanonical

/-- The error information `raise` records (R31, R203). -/
def errorInfo (e : CmdError) : Byte :=
  match e with
  | .invalidKeyLength n => n
  | .noKey op => op
  | .illegalCmd b => b
  | .decodeLength n => n
  | .decodeChar j => BitVec.ofNat 8 j.val
  | .decodeNoncanonical => 12

/-- The word a read of `STATUS` returns: `BUSY` [0], `ERR` [1], `KEY_VALID` [2], `OVR` [3], `ERRCODE` [11:8], `ERRINFO`
[23:16], and 0 in the reserved bits (R29). -/
def statusWord (st : Status) : Word :=
  (0#8) ++ st.errInfo ++ (0#4) ++ errCodeBits st.errCode ++ (0#4)
    ++ BitVec.ofBool st.ovr ++ BitVec.ofBool st.keyValid ++ BitVec.ofBool st.err ++ BitVec.ofBool st.busy

/-- The error status cleared, as only acceptance (and so NOP) and reset do (R200, R213). -/
def statusErrorCleared (st : Status) : Status :=
  { st with err := false, errCode := .none, errInfo := 0 }

/-- The `STATUS` updates of acceptance: the error fields and `OVR` are cleared, `BUSY` is set, and the exact word
0x00000001 also clears `KEY_VALID` (R200, R102). -/
def statusAtAcceptance (v : Word) (st : Status) : Status :=
  { statusErrorCleared st with
    busy := true
    ovr := false
    keyValid := if v = 0x00000001#32 then false else st.keyValid }

/-- The `STATUS` updates of `raise` (R203). -/
def statusAfterRaise (e : CmdError) (st : Status) : Status :=
  { st with err := true, errCode := errorCode e, errInfo := errorInfo e }

/-- `STATUS.BUSY <- 0`, the last act of completion (R201). -/
def statusIdle (st : Status) : Status := { st with busy := false }

/-- `STATUS.KEY_VALID <- 1` (R100, R102). -/
def statusKeyBound (st : Status) : Status := { st with keyValid := true }

/-- `STATUS.OVR <- 1`: a write was dropped (spec/70_reset_and_hazards.md R231). -/
def statusOverrun (st : Status) : Status := { st with ovr := true }

end Sys2Proof.Machine
end

