-- ==== Sys2Proof/Machine/Operands.lean ====
section
/-!
DEFINITION. How the registers of the window hold their data: the word slots (spec/10_state.md R20), byte lanes
(spec/20_memory.md R54), the words of each buffer (R22 to R27), what a read of each register returns and what a write
stores (R52), and the operand snapshot (R36).
-/

namespace Sys2Proof.Machine

/-- `VERSION` (R33): "IDH" and revision 1. -/
def versionWord : Word := 0x49444801

/-- The register of the word slot an aligned offset names (R20, R34). -/
def regAt (off : BitVec 7) : Reg :=
  let k := off.toNat / 4
  if k = 0 then .cmd
  else if k = 1 then .status
  else if k = 2 then .keyLen
  else if k = 3 then .txtLen
  else if k = 4 then .idLo
  else if k = 5 then .idHi
  else if k = 6 then .blkLo
  else if k = 7 then .blkHi
  else if h : 8 ≤ k ∧ k < 12 then .txt ⟨k - 8, by omega⟩
  else if k = 12 then .version
  else if h : 16 ≤ k ∧ k < 30 then .key ⟨k - 16, by omega⟩
  else .rsvd

/-- Byte lane m of a bus word: bits `[8m+7:8m]` (R54). -/
def lane (v : Word) (m : Nat) : Byte := v.extractLsb' (8 * m) 8

/-- Byte `i` of a buffer; every use of it is in range. -/
def byteAt {n : Nat} (b : Vector Byte n) (i : Nat) : Byte := b[i]?.getD 0

/-- Word `k` of a buffer: byte `4k+m` is lane m (R23, R24, R54). -/
def wordAt {n : Nat} (b : Vector Byte n) (k : Nat) : Word :=
  byteAt b (4 * k + 3) ++ byteAt b (4 * k + 2) ++ byteAt b (4 * k + 1) ++ byteAt b (4 * k)

/-- Replace word `k` of a buffer: its four bytes become the lanes of `v` (R23, R24, R26, R52). -/
def putWordAt {n : Nat} (b : Vector Byte n) (k : Nat) (v : Word) : Vector Byte n :=
  (((b.setIfInBounds (4 * k) (lane v 0)).setIfInBounds (4 * k + 1) (lane v 1)).setIfInBounds
    (4 * k + 2) (lane v 2)).setIfInBounds (4 * k + 3) (lane v 3)

/-- What a host read of a register returns where R52 defines it: write-only registers and reserved slots read 0, and so do
the reserved bits of the length registers. -/
def readReg (s : State) (r : Reg) : Word :=
  match r with
  | .cmd => 0
  | .status => statusWord s.status
  | .keyLen => s.keyLen.setWidth 32
  | .txtLen => s.txtLen.setWidth 32
  | .idLo => s.id.extractLsb' 0 32
  | .idHi => s.id.extractLsb' 32 32
  | .blkLo => wordAt s.blk 0
  | .blkHi => wordAt s.blk 1
  | .txt k => wordAt s.txt k.val
  | .version => versionWord
  | .key _ => 0
  | .rsvd => 0

/-- What a host write to a data or length register stores (R22 to R27, R52). Writes to read-only registers and reserved
slots are ignored (R20, R34); a write to `CMD` stores nothing here, it presents a command. -/
def storeReg (s : State) (r : Reg) (v : Word) : State :=
  match r with
  | .cmd => s
  | .status => s
  | .keyLen => { s with keyLen := v.extractLsb' 0 8 }
  | .txtLen => { s with txtLen := v.extractLsb' 0 8 }
  | .idLo => { s with id := s.id.extractLsb' 32 32 ++ v }
  | .idHi => { s with id := v ++ s.id.extractLsb' 0 32 }
  | .blkLo => { s with blk := putWordAt s.blk 0 v }
  | .blkHi => { s with blk := putWordAt s.blk 1 v }
  | .txt k => { s with txt := putWordAt s.txt k.val v }
  | .version => s
  | .key k => { s with key := putWordAt s.key k.val v }
  | .rsvd => s

/-- The registers whose reads are unspecified while `BUSY = 1` (R52, spec/70_reset_and_hazards.md R232). -/
def unspecifiedWhileBusy (r : Reg) : Bool :=
  match r with
  | .txtLen => true
  | .idLo => true
  | .idHi => true
  | .blkLo => true
  | .blkHi => true
  | .txt _ => true
  | .cmd => false
  | .status => false
  | .keyLen => false
  | .version => false
  | .key _ => false
  | .rsvd => false

/-- The operand registers as they stand: what acceptance takes (R36, R200). -/
def snapshotOf (s : State) : Snapshot :=
  { id := s.id, blk := s.blk, txt := s.txt, txtLen := s.txtLen, key := s.key, keyLen := s.keyLen }

/-- `KEY[0..n-1]` of the snapshot (R26, R100). -/
def snapKeyBytes (s : State) : List Byte := s.snap.key.toList.take s.snap.keyLen.toNat

end Sys2Proof.Machine
end

