-- ==== Sys2Proof/Machine/Ops.lean ====
section
/-!
DEFINITION. The shared operations of the machine: acceptance of a command (spec/60_exceptions.md R200), `raise` (R203),
completion (R201, R202), the host's transactions (spec/20_memory.md R51 to R53) and the reset input
(spec/70_reset_and_hazards.md R230).
-/

namespace Sys2Proof.Machine

/-- Acceptance of the command word `v` (R200): one atomic step. Every word is accepted, illegal words included. -/
def accept (v : Word) (s : State) : State :=
  { s with cmdWord := v, snap := snapshotOf s, status := statusAtAcceptance v s.status }

/-- `raise E(info)` (R203): the error is recorded in `STATUS`, and nothing else is written (R202). Nothing is saved, there
is no vector and no mode; the next acceptance clears the error status, and the core has no return-from-trap command
(R200, R213). -/
def raise (e : CmdError) (s : State) : State :=
  { s with status := statusAfterRaise e s.status }

/-- The end of completion: `STATUS.BUSY <- 0` (R201). -/
def finish (s : State) : State :=
  { s with status := statusIdle s.status }

/-- Completion (R201): the pseudocode has either written its destinations or raised; a raise writes none of them (R202). -/
def complete (s : State) (r : Except CmdError State) : Host.Outcome State Fault Refusal :=
  match r with
  | .ok t => .next (finish t)
  | .error e => .next (finish (raise e s))

/-- `if STATUS.KEY_VALID = 0: raise NO_KEY(op)`, then the rest of the pseudocode (R206). -/
def requireKey (op : Byte) (s : State) (body : Except CmdError State) : Except CmdError State :=
  if s.status.keyValid then body else .error (.noKey op)

/-- Completion of an illegal word: `raise ILLEGAL_CMD(CMD[7:0])` and no other effect (R72, R205). -/
def completeIllegal (s : State) : Host.Outcome State Fault Refusal :=
  complete s (.error (.illegalCmd s.curOp))

/-- The command in flight: what completion decodes (R201). -/
def fetch (s : State) : Except Illegal Instr := decode s.cmdWord

/-- The offset a physical address reaches: `a - BASE` inside the window, none outside it (R51). -/
def offsetOfAddress (a : Nat) : Option (BitVec 7) :=
  if Config.base ≤ a ∧ a < Config.base + 0x80 then some (BitVec.ofNat 7 (a - Config.base)) else none

/-- The offset a transaction reaches, if it reaches the core (R51). -/
def targetOffset (t : Target) : Option (BitVec 7) :=
  match t with
  | .offset off => some off
  | .address a => offsetOfAddress a

/-- Only naturally aligned 32-bit accesses are defined (R53). -/
def accessOk (off : BitVec 7) (width : Nat) : Bool :=
  off.toNat % 4 == 0 && width == 4

/-- The bus response to a transaction. -/
def answer (data : Option Word) (busError : Bool) (s : State) : State :=
  { s with reply := some { data := data, busError := busError } }

/-- A host write that reaches a register while the core is idle: a command word is presented to `CMD`, any other write
stores its value or is ignored (R52). -/
def writeReg (r : Reg) (v : Word) (s : State) : State :=
  if r = .cmd then accept v s else storeReg s r v

/-- `HostWrite(off, v)` (R52): a misaligned or non-32-bit access is refused (R53), a write while reset is asserted is
ignored (R230), a write while `BUSY = 1` is dropped and sets `OVR` (R231). -/
def hostWrite (off : BitVec 7) (width : Nat) (v : Word) (s : State) : State :=
  if accessOk off width = false then answer none Config.busSignalsErrors s
  else if s.resetHeld then answer none false s
  else if s.status.busy then answer none false { s with status := statusOverrun s.status }
  else answer none false (writeReg (regAt off) v s)

/-- `HostRead(off)` (R52): a misaligned or non-32-bit access reads 0 (R53), a read while reset is asserted returns 0
(R230), a read of a destination register while `BUSY = 1` returns a fresh free value (R232, log entry 5). -/
def hostRead (off : BitVec 7) (width : Nat) (s : State) : State :=
  if accessOk off width = false then answer (some 0) Config.busSignalsErrors s
  else if s.resetHeld then answer (some 0) false s
  else if s.status.busy && unspecifiedWhileBusy (regAt off) then
    answer (some (Config.busyReadValue s.draws)) false { s with draws := s.draws + 1 }
  else answer (some (readReg s (regAt off))) false s

/-- A write transaction: it reaches the core only inside the window (R51). -/
def serveWrite (t : Target) (width : Nat) (v : Word) (s : State) : State :=
  match targetOffset t with
  | some off => hostWrite off width v s
  | none => s

/-- A read transaction: it reaches the core only inside the window (R51). -/
def serveRead (t : Target) (width : Nat) (s : State) : State :=
  match targetOffset t with
  | some off => hostRead off width s
  | none => s

/-- The reset input is asserted: every piece of state takes its value of R38, the command in flight is abandoned (R230).
What R38 leaves unspecified is a free value (log entries 6 and 7). -/
def resetAssert (s : State) : State :=
  { id := 0
    blk := Vector.replicate 8 0
    txt := Vector.replicate 16 0
    txtLen := 0
    key := Vector.replicate 56 0
    keyLen := 0
    status := .reset
    sched := { p := Config.resetPArray s.draws, s := Config.resetSBoxes s.draws }
    cmdWord := Config.resetCommandWord s.draws
    snap :=
      { id := Config.resetSnapId s.draws
        blk := Config.resetSnapBlk s.draws
        txt := Config.resetSnapTxt s.draws
        txtLen := Config.resetSnapTxtLen s.draws
        key := Config.resetSnapKey s.draws
        keyLen := Config.resetSnapKeyLen s.draws }
    resetHeld := true
    inbox := s.inbox
    reply := s.reply
    draws := s.draws + 1 }

/-- The reset input is released (R230). -/
def resetRelease (s : State) : State :=
  { s with resetHeld := false }

end Sys2Proof.Machine
end

