-- ==== Sys2Proof/Machine/BlockTransform.lean ====
section
/-!
DEFINITION. Block Transform commands (spec/40_block_transform.md section 1): KEYSET (R100 to R102), ENC (R108), DEC
(R109).
-/

namespace Sys2Proof.Machine

/-- The key is legal exactly when `1 <= KEYLEN.LEN <= 56` (R101). -/
def keyLengthLegal (n : Byte) : Bool := decide (1 ≤ n.toNat ∧ n.toNat ≤ 56)

/-- `KEYSET`: build and bind the key schedule, or `INVALID_KEY_LENGTH` (R100). `KEY_VALID` was cleared at acceptance
(R102), so a failed KEYSET leaves it 0. -/
def execKeyset (s : State) : Host.Outcome State Fault Refusal :=
  complete s
    (if keyLengthLegal s.snap.keyLen then
      .ok { s with sched := bfSchedule (snapKeyBytes s), status := statusKeyBound s.status }
    else .error (.invalidKeyLength s.snap.keyLen))

/-- `ENC`: `BLK <- Encrypt(BLK)`, or `NO_KEY` (R108). -/
def execEnc (s : State) : Host.Outcome State Fault Refusal :=
  complete s (requireKey 0x20 s (.ok { s with blk := encryptBlock s.sched s.snap.blk }))

/-- `DEC`: `BLK <- Decrypt(BLK)`, or `NO_KEY` (R109). -/
def execDec (s : State) : Host.Outcome State Fault Refusal :=
  complete s (requireKey 0x21 s (.ok { s with blk := decryptBlock s.sched s.snap.blk }))

end Sys2Proof.Machine
end

