-- ==== Sys2Proof/Machine/ByteOrder.lean ====
section
/-!
DEFINITION. Byte-Order Conversion (spec/42_byte_order.md): the serializers (R140, R141), TOBYTES (R142) and FROMBYTES
(R143). Little-endian, never a host-native order (R144).
-/

namespace Sys2Proof.Machine

/-- `ToBytes(x)`: `b[i] = x[8i+7:8i]` (R140). -/
def toBytes (x : IdWord) : Block :=
  #v[x.extractLsb' 0 8, x.extractLsb' 8 8, x.extractLsb' 16 8, x.extractLsb' 24 8,
     x.extractLsb' 32 8, x.extractLsb' 40 8, x.extractLsb' 48 8, x.extractLsb' 56 8]

/-- `FromBytes(b) = {b[7], ..., b[0]}` (R141). -/
def fromBytes (b : Block) : IdWord :=
  b[7] ++ b[6] ++ b[5] ++ b[4] ++ b[3] ++ b[2] ++ b[1] ++ b[0]

/-- `TOBYTES`: `BLK <- ToBytes(ID)` (R142). -/
def execTobytes (s : State) : Host.Outcome State Fault Refusal :=
  complete s (.ok { s with blk := toBytes s.snap.id })

/-- `FROMBYTES`: `ID <- FromBytes(BLK)` (R143). -/
def execFrombytes (s : State) : Host.Outcome State Fault Refusal :=
  complete s (.ok { s with id := fromBytes s.snap.blk })

end Sys2Proof.Machine
end

