-- ==== Sys2Proof/Machine/Codec.lean ====
section
/-!
DEFINITION. Text Codec (spec/43_text_codec.md): the alphabet lookups (R150, R153), Encode (R151), strict Decode (R152),
B32ENC (R154) and B32DEC (R155).
-/

namespace Sys2Proof.Machine

/-- `ALPH[g]` (R150). -/
def symbol (g : BitVec 5) : Byte := alphabet[g.toNat]

/-- `IDX(c)`, none for INVALID (R153). -/
def symbolIndex (c : Byte) : Option (BitVec 5) :=
  (alphabet.toList.findIdx? (· == c)).map (BitVec.ofNat 5)

/-- The 65-bit string of R151: `b[0]` highest, one zero pad bit lowest. -/
def bitsOfBlock (b : Block) : BitVec 65 :=
  b[0] ++ b[1] ++ b[2] ++ b[3] ++ b[4] ++ b[5] ++ b[6] ++ b[7] ++ 0#1

/-- Group `j`: `V[64-5j : 60-5j]` (R151). -/
def groupOf (v : BitVec 65) (j : Nat) : BitVec 5 := v.extractLsb' (60 - 5 * j) 5

/-- `Encode(b)`: 13 characters (R151). -/
def encodeText (b : Block) : Vector Byte 13 :=
  Vector.ofFn fun j => symbol (groupOf (bitsOfBlock b) j.val)

/-- The text buffer after an encode: 13 characters, then `TXT[13..15] = 0` (R154, R171). -/
def textBuffer (t : Vector Byte 13) : Text := t ++ #v[0#8, 0#8, 0#8]

/-- Character `j` of the text, `j` in 0..12 (R152). -/
def textChar (t : Text) (j : Fin 13) : Byte := t[j.val]

/-- The lowest `j` in 0..12 whose character is INVALID (R152, R209). -/
def firstInvalid (t : Text) : Option (Fin 13) :=
  (List.finRange 13).find? fun j => (symbolIndex (textChar t j)).isNone

/-- The index of character `j`; used only when every character has one (R152). -/
def textGroup (t : Text) (j : Fin 13) : BitVec 5 := (symbolIndex (textChar t j)).getD 0

/-- The 65-bit string of the 13 indices, `g[0]` highest (R152). -/
def bitsOfText (t : Text) : BitVec 65 :=
  textGroup t 0 ++ textGroup t 1 ++ textGroup t 2 ++ textGroup t 3 ++ textGroup t 4 ++ textGroup t 5 ++ textGroup t 6
    ++ textGroup t 7 ++ textGroup t 8 ++ textGroup t 9 ++ textGroup t 10 ++ textGroup t 11 ++ textGroup t 12

/-- The block of a 65-bit string: `[V[64:57], ..., V[8:1]]` (R152). -/
def blockOfBits (v : BitVec 65) : Block :=
  #v[v.extractLsb' 57 8, v.extractLsb' 49 8, v.extractLsb' 41 8, v.extractLsb' 33 8,
     v.extractLsb' 25 8, v.extractLsb' 17 8, v.extractLsb' 9 8, v.extractLsb' 1 8]

/-- `Decode(t, n)`: strict, its errors in the order of R152 and R207. -/
def decodeText (t : Text) (n : Byte) : Except CmdError Block :=
  if n ≠ 13 then .error (.decodeLength n)
  else
    match firstInvalid t with
    | some j => .error (.decodeChar j)
    | none =>
      if (bitsOfText t).getLsbD 0 then .error .decodeNoncanonical
      else .ok (blockOfBits (bitsOfText t))

/-- `B32ENC`: `TXT <- Encode(BLK)` zero-filled, `TXTLEN.LEN <- 13` (R154). -/
def execB32enc (s : State) : Host.Outcome State Fault Refusal :=
  complete s (.ok { s with txt := textBuffer (encodeText s.snap.blk), txtLen := 13 })

/-- `B32DEC`: `BLK <- Decode(TXT, TXTLEN.LEN)`; on a raise `BLK` is unchanged (R155). -/
def execB32dec (s : State) : Host.Outcome State Fault Refusal :=
  complete s
    (match decodeText s.snap.txt s.snap.txtLen with
    | .ok b => .ok { s with blk := b }
    | .error e => .error e)

end Sys2Proof.Machine
end

