-- ==== Sys2Proof/Machine/Control.lean ====
section
/-!
DEFINITION. Control command (spec/45_control.md): NOP (R190).
-/

namespace Sys2Proof.Machine

/-- `NOP`: at completion, nothing; acceptance has cleared the error status and `OVR` (R190). -/
def execNop (s : State) : Host.Outcome State Fault Refusal :=
  complete s (.ok s)

end Sys2Proof.Machine
end

