-- ==== Sys2Proof/Machine/Facade.lean ====
section
/-!
DEFINITION. Façade commands (spec/44_facade.md): PUBID (R170), HPUBID (R171), HTOID (R172). Each leaves its pipeline's
final block in `BLK` (D16).
-/

namespace Sys2Proof.Machine

/-- `PUBID`: `c <- Encrypt(ToBytes(ID))`, `BLK <- c`, `ID <- FromBytes(c)`, or `NO_KEY` (R170). -/
def execPubid (s : State) : Host.Outcome State Fault Refusal :=
  let c := encryptBlock s.sched (toBytes s.snap.id)
  complete s (requireKey 0x40 s (.ok { s with blk := c, id := fromBytes c }))

/-- `HPUBID`: `c <- Encrypt(ToBytes(ID))`, `BLK <- c`, `TXT <- Encode(c)` zero-filled, `TXTLEN.LEN <- 13`, or `NO_KEY`
(R171). -/
def execHpubid (s : State) : Host.Outcome State Fault Refusal :=
  let c := encryptBlock s.sched (toBytes s.snap.id)
  complete s (requireKey 0x41 s (.ok { s with blk := c, txt := textBuffer (encodeText c), txtLen := 13 }))

/-- `HTOID`: `p <- Decrypt(Decode(TXT, TXTLEN.LEN))`, `BLK <- p`, `ID <- FromBytes(p)`; `NO_KEY` before the decode errors
(R172, R207). -/
def execHtoid (s : State) : Host.Outcome State Fault Refusal :=
  complete s
    (requireKey 0x42 s
      (match decodeText s.snap.txt s.snap.txtLen with
      | .ok c =>
        let p := decryptBlock s.sched c
        .ok { s with blk := p, id := fromBytes p }
      | .error e => .error e))

end Sys2Proof.Machine
end

