-- ==== Sys2Proof/Machine/Dispatch.lean ====
section
/-!
DEFINITION. The meaning of every command: its pseudocode at completion, on the operand snapshot (spec/60_exceptions.md
R201), one arm for each row of spec/opcode_table.json.
-/

namespace Sys2Proof.Machine

def exec (i : Instr) (s : State) : Host.Outcome State Fault Refusal :=
  match i with
  | .nop => Sys2Proof.Machine.execNop s
  | .keyset => Sys2Proof.Machine.execKeyset s
  | .tobytes => Sys2Proof.Machine.execTobytes s
  | .frombytes => Sys2Proof.Machine.execFrombytes s
  | .enc => Sys2Proof.Machine.execEnc s
  | .dec => Sys2Proof.Machine.execDec s
  | .b32enc => Sys2Proof.Machine.execB32enc s
  | .b32dec => Sys2Proof.Machine.execB32dec s
  | .pubid => Sys2Proof.Machine.execPubid s
  | .hpubid => Sys2Proof.Machine.execHpubid s
  | .htoid => Sys2Proof.Machine.execHtoid s

end Sys2Proof.Machine
end

