-- ==== Sys2Proof/Machine/Step.lean ====
section
/-!
DEFINITION. One step of the machine (spec/00_scope.md R16, spec/20_memory.md R59): the first pending event is served; with
none pending, a busy engine completes and an idle core keeps its state.
-/

namespace Sys2Proof.Machine

/-- The engine's step *complete* (spec/60_exceptions.md R201): decode the command in flight and run it; an illegal word
raises `ILLEGAL_CMD` (R205). -/
def stepEngine (s : State) : Host.Outcome State Fault Refusal :=
  match fetch s with
  | .ok i => exec i s
  | .error _ => completeIllegal s

/-- The engine's turn: enabled only while `BUSY = 1` (R16, R201). -/
def engineTurn (s : State) : Host.Outcome State Fault Refusal :=
  if s.status.busy then stepEngine s else .next s

/-- One event of the total order of R59. -/
def serve (e : Event) (s : State) : Host.Outcome State Fault Refusal :=
  match e with
  | .write t width v => .next (serveWrite t width v s)
  | .read t width => .next (serveRead t width s)
  | .engine => engineTurn s
  | .resetAssert => .next (resetAssert s)
  | .resetRelease => .next (resetRelease s)

/-- One step. With nothing pending the engine takes its turn (weak fairness, R201), and an idle core keeps all state
(R220). -/
def step (s : State) : Host.Outcome State Fault Refusal :=
  match s.inbox with
  | [] => engineTurn s
  | e :: rest => serve e { s with inbox := rest }

/-- `s` with the command word of `nbits` bits `w` accepted, so that the very next step completes it: where the core
"fetches" is the word in flight (R200, R201; log entry 11). If events are pending, the engine's turn is put before them. -/
def State.withFetchWord (s : State) (nbits w : Nat) : State :=
  { accept (BitVec.ofNat 32 (w % 2 ^ nbits)) s with
    inbox := match s.inbox with
      | [] => []
      | e :: rest => .engine :: e :: rest }

end Sys2Proof.Machine
end

