-- ==== Sys2Proof/Safety.lean ====
section
/-!
DEFINITION. The terms claims are made in: runs of steps, one whole command from acceptance to completion, events that are
host transactions, and the invariant every step keeps.
-/

namespace Sys2Proof.Machine

/-- `n` steps, ending early where a step stops. -/
def runSteps (n : Nat) (s : State) : Host.Outcome State Fault Refusal :=
  match n with
  | 0 => .next s
  | k + 1 =>
    match step s with
    | .next t => runSteps k t
    | .fault r => .fault r
    | .refused r => .refused r

/-- One whole command: its word is accepted (spec/60_exceptions.md R200), then it completes (R201). -/
def runCommand (i : Instr) (s : State) : Host.Outcome State Fault Refusal :=
  exec i (accept (encode i) s)

/-- Whole commands one after another. -/
def runCommands (is : List Instr) (s : State) : Host.Outcome State Fault Refusal :=
  match is with
  | [] => .next s
  | i :: rest =>
    match runCommand i s with
    | .next t => runCommands rest t
    | .fault r => .fault r
    | .refused r => .refused r

/-- The host transaction that presents the command word `v` (spec/20_memory.md R52). -/
def cmdWrite (v : Word) : Event := .write (.offset 0) 4 v

/-- The event is a host transaction, not the engine's turn or a reset edge. -/
def isTransaction (e : Event) : Bool :=
  match e with
  | .write _ _ _ => true
  | .read _ _ => true
  | .engine => false
  | .resetAssert => false
  | .resetRelease => false

/-- The event is an aligned 32-bit write that reaches `CMD` (R52, R53, R200). -/
def presentsCommand (e : Event) : Bool :=
  match e with
  | .write t width _ =>
    match targetOffset t with
    | some off => accessOk off width && decide (regAt off = .cmd)
    | none => false
  | .read _ _ => false
  | .engine => false
  | .resetAssert => false
  | .resetRelease => false

/-- The event is an aligned 32-bit write that reaches the window (R52, R53, spec/70_reset_and_hazards.md R231). -/
def isAlignedWrite (e : Event) : Bool :=
  match e with
  | .write t width _ =>
    match targetOffset t with
    | some off => accessOk off width
    | none => false
  | .read _ _ => false
  | .engine => false
  | .resetAssert => false
  | .resetRelease => false

/-- The commands that need a bound key (spec/30_encoding.md R73). -/
def needsKey (i : Instr) : Bool :=
  match i with
  | .nop => false
  | .keyset => false
  | .tobytes => false
  | .frombytes => false
  | .enc => true
  | .dec => true
  | .b32enc => false
  | .b32dec => false
  | .pubid => true
  | .hpubid => true
  | .htoid => true

/-- The 13 characters of R151 by its second table, byte by byte: `t[0] = b[0][7:3]`, `t[1] = {b[0][2:0], b[1][7:6]}`, and so
on to `t[12] = {b[7][3:0], 0}`. -/
def encodedTextByByte (b : Block) : Vector Byte 13 :=
  #v[symbol (b[0].extractLsb' 3 5), symbol (b[0].extractLsb' 0 3 ++ b[1].extractLsb' 6 2),
     symbol (b[1].extractLsb' 1 5), symbol (b[1].extractLsb' 0 1 ++ b[2].extractLsb' 4 4),
     symbol (b[2].extractLsb' 0 4 ++ b[3].extractLsb' 7 1), symbol (b[3].extractLsb' 2 5),
     symbol (b[3].extractLsb' 0 2 ++ b[4].extractLsb' 5 3), symbol (b[4].extractLsb' 0 5),
     symbol (b[5].extractLsb' 3 5), symbol (b[5].extractLsb' 0 3 ++ b[6].extractLsb' 6 2),
     symbol (b[6].extractLsb' 1 5), symbol (b[6].extractLsb' 0 1 ++ b[7].extractLsb' 4 4),
     symbol (b[7].extractLsb' 0 4 ++ 0#1)]

/-- The 8 bytes of R152 byte by byte from the indices `g`: `b[0] = {g0, g1[4:2]}` and so on to
`b[7] = {g11[3:0], g12[4:1]}`. -/
def decodedBlockByByte (g : Vector (BitVec 5) 13) : Block :=
  #v[g[0] ++ g[1].extractLsb' 2 3, g[1].extractLsb' 0 2 ++ g[2] ++ g[3].extractLsb' 4 1,
     g[3].extractLsb' 0 4 ++ g[4].extractLsb' 1 4, g[4].extractLsb' 0 1 ++ g[5] ++ g[6].extractLsb' 3 2,
     g[6].extractLsb' 0 3 ++ g[7], g[8] ++ g[9].extractLsb' 2 3,
     g[9].extractLsb' 0 2 ++ g[10] ++ g[11].extractLsb' 4 1, g[11].extractLsb' 0 4 ++ g[12].extractLsb' 1 4]

/-- Byte `j` of the key, cycled (spec/40_block_transform.md R103). -/
def cycledKeyByte (key : List Byte) (j : Nat) : Byte := key.getD (j % key.length) 0

/-- One pair of the schedule stored: `k'` is `k` with `x` in its words `2n` and `2n+1`, the words of a schedule counted as R103
fills them, `P[0..17]`, then `S[0]`, `S[1]`, `S[2]`, `S[3]`. -/
def pairStored (n : Nat) (x : Word × Word) (k k' : Schedule) : Prop :=
  (∀ j : Fin 18, k'.p[j] = if j.val = 2 * n then x.1 else if j.val = 2 * n + 1 then x.2 else k.p[j]) ∧
  (∀ (m : Fin 4) (j : Fin 256), (k'.s[m])[j] =
    if 18 + 256 * m.val + j.val = 2 * n then x.1
    else if 18 + 256 * m.val + j.val = 2 * n + 1 then x.2
    else (k.s[m])[j])

/-- Two states agree on what the command reads (spec/30_encoding.md R73), `KEY_VALID` included. -/
def operandsAgree (i : Instr) (s s' : State) : Prop :=
  s.status.keyValid = s'.status.keyValid ∧
  match i with
  | .nop => True
  | .keyset => s.keyLen = s'.keyLen ∧ s.key.toList.take s.keyLen.toNat = s'.key.toList.take s.keyLen.toNat
  | .tobytes => s.id = s'.id
  | .frombytes => s.blk = s'.blk
  | .enc => s.blk = s'.blk ∧ s.sched = s'.sched
  | .dec => s.blk = s'.blk ∧ s.sched = s'.sched
  | .b32enc => s.blk = s'.blk
  | .b32dec => s.txtLen = s'.txtLen ∧ s.txt.toList.take 13 = s'.txt.toList.take 13
  | .pubid => s.id = s'.id ∧ s.sched = s'.sched
  | .hpubid => s.id = s'.id ∧ s.sched = s'.sched
  | .htoid => s.txtLen = s'.txtLen ∧ s.txt.toList.take 13 = s'.txt.toList.take 13 ∧ s.sched = s'.sched

/-- Two states agree on what the command writes on success (R73), `STATUS` aside. -/
def destinationsAgree (i : Instr) (t t' : State) : Prop :=
  match i with
  | .nop => True
  | .keyset => t.sched = t'.sched
  | .tobytes => t.blk = t'.blk
  | .frombytes => t.id = t'.id
  | .enc => t.blk = t'.blk
  | .dec => t.blk = t'.blk
  | .b32enc => t.txt = t'.txt ∧ t.txtLen = t'.txtLen
  | .b32dec => t.blk = t'.blk
  | .pubid => t.blk = t'.blk ∧ t.id = t'.id
  | .hpubid => t.blk = t'.blk ∧ t.txt = t'.txt ∧ t.txtLen = t'.txtLen
  | .htoid => t.blk = t'.blk ∧ t.id = t'.id

/-- Every register that R73 does not list as the command's destination is unchanged from `s` to `t`. -/
def nonDestinationsKept (i : Instr) (s t : State) : Prop :=
  t.key = s.key ∧ t.keyLen = s.keyLen ∧
  match i with
  | .nop => t.id = s.id ∧ t.blk = s.blk ∧ t.txt = s.txt ∧ t.txtLen = s.txtLen ∧ t.sched = s.sched
  | .keyset => t.id = s.id ∧ t.blk = s.blk ∧ t.txt = s.txt ∧ t.txtLen = s.txtLen
  | .tobytes => t.id = s.id ∧ t.txt = s.txt ∧ t.txtLen = s.txtLen ∧ t.sched = s.sched
  | .frombytes => t.blk = s.blk ∧ t.txt = s.txt ∧ t.txtLen = s.txtLen ∧ t.sched = s.sched
  | .enc => t.id = s.id ∧ t.txt = s.txt ∧ t.txtLen = s.txtLen ∧ t.sched = s.sched
  | .dec => t.id = s.id ∧ t.txt = s.txt ∧ t.txtLen = s.txtLen ∧ t.sched = s.sched
  | .b32enc => t.id = s.id ∧ t.blk = s.blk ∧ t.sched = s.sched
  | .b32dec => t.id = s.id ∧ t.txt = s.txt ∧ t.txtLen = s.txtLen ∧ t.sched = s.sched
  | .pubid => t.txt = s.txt ∧ t.txtLen = s.txtLen ∧ t.sched = s.sched
  | .hpubid => t.id = s.id ∧ t.sched = s.sched
  | .htoid => t.txt = s.txt ∧ t.txtLen = s.txtLen ∧ t.sched = s.sched

/-- `ERR = 1` exactly when `ERRCODE != 0` (spec/10_state.md R29); the error information is one the code allows (R31, R204),
and an error that reports an unbound key stands beside `KEY_VALID = 0`; no error is shown while a command runs (R200). -/
def statusConsistent (st : Status) : Prop :=
  (st.err = true ↔ st.errCode ≠ .none) ∧ (st.busy = true → st.errCode = .none) ∧
  match st.errCode with
  | .none => st.errInfo = 0
  | .invalidKeyLength => st.keyValid = false ∧ (st.errInfo.toNat = 0 ∨ 56 < st.errInfo.toNat)
  | .noKey => st.keyValid = false ∧ st.errInfo ∈ [0x20#8, 0x21#8, 0x40#8, 0x41#8, 0x42#8]
  | .illegalCmd => True
  | .decodeLength => st.errInfo ≠ 13
  | .decodeChar => st.errInfo.toNat ≤ 12
  | .decodeNoncanonical => st.errInfo = 12

/-- While a command runs, the operand registers are those it took at acceptance (R36), and a KEYSET in flight has unbound
the key (spec/40_block_transform.md R102). -/
def engineConsistent (s : State) : Prop :=
  s.status.busy = true →
    s.snap = snapshotOf s ∧ (s.cmdWord = 0x00000001#32 → s.status.keyValid = false)

/-- A bound key schedule is the schedule of some legal key (R28, spec/40_block_transform.md R101 to R103). -/
def keyConsistent (s : State) : Prop :=
  s.status.keyValid = true →
    ∃ key : List Byte, 1 ≤ key.length ∧ key.length ≤ 56 ∧ s.sched = bfSchedule key

/-- While reset is asserted the registers hold the values of R38 (spec/70_reset_and_hazards.md R230). -/
def resetConsistent (s : State) : Prop :=
  s.resetHeld = true →
    s.id = 0 ∧ s.blk = Vector.replicate 8 0 ∧ s.txt = Vector.replicate 16 0 ∧ s.txtLen = 0 ∧
    s.key = Vector.replicate 56 0 ∧ s.keyLen = 0 ∧ s.status = .reset

/-- The invariant of the machine. Two of its clauses are the model's choice, not the spec's words: the snapshot of every operand
register in `engineConsistent` (log entry 10), and the registers' values while reset is asserted (log entry 8). -/
def CoreInv (s : State) : Prop :=
  statusConsistent s.status ∧ engineConsistent s ∧ keyConsistent s ∧ resetConsistent s

end Sys2Proof.Machine
end

