-- ==== Sys2Proof/Certificates/Slice0/Obligations.lean ====
section
/-!
DEFINITION. The statements for the provers, about the machine the spec gives, in the order of OBLIGATIONS.json: encoding, the
step and a command's life, errors, the eleven commands, the functions behind them, the register window, reset, and the
whole-machine rules. The model's own fields `inbox`, `reply` and `draws` are log entries 1, 2 and 5.
-/

open Sys2Proof Sys2Proof.Machine

/-! ## Encoding -/

/-- R70, R71: a word decodes to a command exactly when it is that command's word, so no bit of the word is dropped. -/
def Obligations.DecodeAndEncodeAgree : Prop :=
  ∀ (v : Word) (i : Instr), decode v = .ok i ↔ v = encode i

/-- R72: an illegal word is rejected by name, `RSVD != 0` before the opcode, and a word is well formed exactly when it
decodes. -/
def Obligations.IllegalWordsAreNamed : Prop :=
  ∀ v : Word,
    (decode v = .error .reservedBits ↔ v.extractLsb' 8 24 ≠ 0#24) ∧
    (∀ op : Byte, decode v = .error (.unassignedOpcode op) ↔
      v.extractLsb' 8 24 = 0#24 ∧ v.extractLsb' 0 8 = op ∧ op ∉ assignedOpcodes) ∧
    ((CommandWord.ofWord v).wellFormed = true ↔ ∃ i, decode v = .ok i)

/-- R54, R70: bytes decode to a command exactly when they are the four bytes of its word, lowest address first. -/
def Obligations.CommandBytesDecode : Prop :=
  ∀ (bs : List Byte) (i : Instr), decodeBytes bs = .ok i ↔ bs = encodeBytes i

/-- Words written out from R71 decode to the commands they stand for. -/
def Obligations.SpecWordsDecode : Prop :=
  decode 0x00000000#32 = .ok .nop ∧ decode 0x00000001#32 = .ok .keyset ∧ decode 0x00000011#32 = .ok .frombytes ∧
  decode 0x00000021#32 = .ok .dec ∧ decode 0x00000030#32 = .ok .b32enc ∧
  decodeTableWord 32 0x00000041 = some .hpubid ∧ decode 0x00000141#32 = .error .reservedBits

/-! ## The step and a command's life -/

/-- R201: when the engine's turn comes and the word in flight decodes to `i`, the step is `exec i`; where an event list is
pending, its engine turn is consumed. A command's word placed where the step finds its next command runs as that command.
The place of the engine's turn and of the next command are the model's: log entries 1 and 11. -/
def Obligations.StepRunsDecodedCommand : Prop :=
  ∀ (s : State) (i : Instr),
    (s.status.busy = true → decode s.cmdWord = .ok i → s.inbox = [] → step s = exec i s) ∧
    (s.status.busy = true → decode s.cmdWord = .ok i →
      ∀ rest, s.inbox = .engine :: rest → step s = exec i { s with inbox := rest }) ∧
    step (s.withFetchWord 32 (encode i).toNat) = runCommand i s

/-- R200: what a write to `CMD` does, for an aligned 32-bit access, while idle and while busy; and that no other access
presents a command. That the snapshot takes every operand register, and what the bus answers to a write, are the model's: log
entries 10 and 2. -/
def Obligations.CommandAcceptance : Prop :=
  ∀ (s : State) (off : BitVec 7) (width : Nat) (v : Word) (rest : List Event),
    s.inbox = .write (.offset off) width v :: rest →
    (¬ (off.toNat % 4 = 0 ∧ width = 4) →
      step s = .next { s with inbox := rest, reply := some ⟨none, Config.busSignalsErrors⟩ }) ∧
    (off = 0 → width = 4 → s.resetHeld = false → s.status.busy = true →
      step s = .next { s with
        inbox := rest
        reply := some ⟨none, false⟩
        status := { s.status with ovr := true } }) ∧
    (off = 0 → width = 4 → s.resetHeld = false → s.status.busy = false →
      step s = .next { s with
        inbox := rest
        reply := some ⟨none, false⟩
        cmdWord := v
        snap := { id := s.id, blk := s.blk, txt := s.txt, txtLen := s.txtLen, key := s.key, keyLen := s.keyLen }
        status :=
          { busy := true
            err := false
            keyValid := if v = 0x00000001#32 then false else s.status.keyValid
            ovr := false
            errCode := .none
            errInfo := 0 } })

/-- R205: an illegal word is accepted, and completes with `ILLEGAL_CMD`; no register but `STATUS` changes, and
`KEY_VALID` stays. The engine takes its own record of the word and the operands (R200). -/
def Obligations.IllegalWordCompletes : Prop :=
  ∀ (s : State) (v : Word),
    (v.extractLsb' 8 24 ≠ 0#24 ∨ v.extractLsb' 0 8 ∉ assignedOpcodes) →
    s.resetHeld = false → s.status.busy = false →
    ∃ (word : Word) (snap : Snapshot) (reply : Option Reply),
      runSteps 2 { s with inbox := [cmdWrite v, .engine] } = .next { s with
        inbox := []
        reply := reply
        cmdWord := word
        snap := snap
        status :=
          { busy := false
            err := true
            keyValid := s.status.keyValid
            ovr := false
            errCode := .illegalCmd
            errInfo := v.extractLsb' 0 8 } }

/-- R201, R73, R37: every command completes; completion clears `BUSY`, leaves `OVR`, touches no register that is not the
command's destination, and only KEYSET touches `KEY_VALID`. That the word in flight and the snapshot also stay as they were is
the model's choice: log entry 7. The model's own fields are log entries 1, 2 and 5. -/
def Obligations.CommandFrame : Prop :=
  ∀ (i : Instr) (s : State), ∃ t, exec i s = .next t ∧
    t.status.busy = false ∧ t.status.ovr = s.status.ovr ∧
    (i ≠ .keyset → t.status.keyValid = s.status.keyValid) ∧
    nonDestinationsKept i s t ∧
    t.cmdWord = s.cmdWord ∧ t.snap = s.snap ∧ t.resetHeld = s.resetHeld ∧
    t.inbox = s.inbox ∧ t.reply = s.reply ∧ t.draws = s.draws

/-- R231, R232, V51: host transactions that arrive while a command runs do not change its outcome: after any such
transactions the engine's turn leaves what it would have left at once, but for `OVR`, the bus response and the number of
draws (the order of events, the bus response and the draws are the model's: log entries 1, 2 and 5). -/
def Obligations.BusyTransactionsDoNotDisturb : Prop :=
  ∀ (s : State) (es : List Event),
    s.status.busy = true → s.resetHeld = false → (∀ e ∈ es, isTransaction e = true) →
    ∃ t u, engineTurn { s with inbox := [] } = .next t ∧
      runSteps (es.length + 1) { s with inbox := es ++ [.engine] } = .next u ∧
      u = { t with reply := u.reply, draws := u.draws, status := { t.status with ovr := u.status.ovr } }

/-- R201, A15: a busy core becomes idle within as many steps as events are pending, and one more (the model's fairness is log
entry 1). -/
def Obligations.BusyEnds : Prop :=
  ∀ s : State, s.status.busy = true →
    ∃ n t, n ≤ s.inbox.length + 1 ∧ runSteps n s = .next t ∧ t.status.busy = false

/-- 93_implementation_defined.md: no behaviour of the core is stuck; every step answers a next state (an access outside the
window too, log entry 3). -/
def Obligations.StepNeverStops : Prop :=
  ∀ s : State, ∃ t, step s = .next t

/-! ## Errors -/

/-- R202: a command that raises, illegal words among them, changes only `STATUS` from what acceptance left, where the word of
KEYSET leaves `KEY_VALID = 0` and any other word leaves `KEY_VALID`. -/
def Obligations.ErrorsArePrecise : Prop :=
  ∀ (v : Word) (s t : State), stepEngine (accept v s) = .next t → t.status.err = true →
    t = { accept v s with status := t.status } ∧
    t.id = s.id ∧ t.blk = s.blk ∧ t.txt = s.txt ∧ t.txtLen = s.txtLen ∧ t.sched = s.sched ∧
    t.key = s.key ∧ t.keyLen = s.keyLen ∧ t.status.busy = false ∧ t.status.ovr = false ∧
    t.status.keyValid = (if v = 0x00000001#32 then false else s.status.keyValid)

/-- R101, R211: the key length is legal exactly from 1 to 56; `INVALID_KEY_LENGTH` is raised by KEYSET alone, with
`ERRINFO = KEYLEN.LEN`, and leaves `KEY_VALID = 0`. -/
def Obligations.KeyLengthLegality : Prop :=
  ∀ (i : Instr) (s t : State), runCommand i s = .next t →
    (t.status.errCode = .invalidKeyLength ↔
      i = .keyset ∧ ¬ (1 ≤ s.keyLen.toNat ∧ s.keyLen.toNat ≤ 56)) ∧
    (t.status.errCode = .invalidKeyLength →
      t.status.err = true ∧ t.status.errInfo = s.keyLen ∧ t.status.keyValid = false)

/-- R102: acceptance of KEYSET clears `KEY_VALID`, only its success sets it again, and after a failed KEYSET every command that
needs a schedule raises `NO_KEY`. -/
def Obligations.FailedKeysetUnbinds : Prop :=
  ∀ s : State,
    (accept (encode .keyset) s).status.keyValid = false ∧
    (∀ t, runCommand .keyset s = .next t → (t.status.keyValid = true ↔ t.status.err = false)) ∧
    (∀ i, needsKey i = true → ¬ (1 ≤ s.keyLen.toNat ∧ s.keyLen.toNat ≤ 56) →
      ∃ t, runCommands [.keyset, i] s = .next t ∧
        t.status.errCode = .noKey ∧ t.status.errInfo = opcodeOf i ∧
        t.id = s.id ∧ t.blk = s.blk ∧ t.txt = s.txt ∧ t.txtLen = s.txtLen)

/-- R206: a command that needs a key raises `NO_KEY` with its opcode where none is bound at acceptance, and no command reads
the schedule then: what a command does is the same whatever the schedule holds. -/
def Obligations.NoKeyRaised : Prop :=
  ∀ (i : Instr) (s : State), s.status.keyValid = false →
    (needsKey i = true → runCommand i s = .next { accept (encode i) s with
      status :=
        { busy := false
          err := true
          keyValid := false
          ovr := false
          errCode := .noKey
          errInfo := opcodeOf i } }) ∧
    (∀ (k : Schedule) (t : State), runCommand i s = .next t →
      ∃ t', runCommand i { s with sched := k } = .next t' ∧
        (i ≠ .keyset ∨ t.status.err = true → t' = { t with sched := k }) ∧
        (i = .keyset → t.status.err = false → t' = t))

/-- R208, R209, R210: when B32DEC and HTOID raise each decode error, with what information; HTOID with a key bound, since
`NO_KEY` outranks them (R207). -/
def Obligations.DecodeErrorsRaised : Prop :=
  ∀ (i : Instr) (s : State), (i = .b32dec ∨ (i = .htoid ∧ s.status.keyValid = true)) →
    (s.snap.txtLen ≠ 13 → exec i s = .next { s with
      status := { s.status with busy := false, err := true, errCode := .decodeLength, errInfo := s.snap.txtLen } }) ∧
    (∀ j : Fin 13, s.snap.txtLen = 13 → symbolIndex (textChar s.snap.txt j) = none →
      (∀ k : Fin 13, k < j → symbolIndex (textChar s.snap.txt k) ≠ none) →
      exec i s = .next { s with
        status := { s.status with
          busy := false, err := true, errCode := .decodeChar, errInfo := BitVec.ofNat 8 j.val } }) ∧
    (∀ g : BitVec 5, s.snap.txtLen = 13 → (∀ k : Fin 13, symbolIndex (textChar s.snap.txt k) ≠ none) →
      symbolIndex (textChar s.snap.txt 12) = some g → g.getLsbD 0 = true →
      exec i s = .next { s with
        status := { s.status with busy := false, err := true, errCode := .decodeNoncanonical, errInfo := 12 } })

/-- R204: the errors each command can end with, and none for NOP, TOBYTES, FROMBYTES and B32ENC. -/
def Obligations.ErrorCausesByCommand : Prop :=
  ∀ (i : Instr) (s t : State), runCommand i s = .next t → t.status.err = true →
    (i = .keyset ∧ t.status.errCode = .invalidKeyLength) ∨
    (needsKey i = true ∧ t.status.errCode = .noKey ∧ s.status.keyValid = false) ∨
    ((i = .b32dec ∨ (i = .htoid ∧ s.status.keyValid = true)) ∧
      (t.status.errCode = .decodeLength ∨ t.status.errCode = .decodeChar ∨
        t.status.errCode = .decodeNoncanonical))

/-! ## The eleven commands -/

/-- R190: NOP completes and changes nothing but `BUSY`; as a whole command it clears the error status and `OVR`. That the engine
then still holds the word of NOP and a snapshot of every operand register is the model's: log entries 7 and 10. -/
def Obligations.NopResult : Prop :=
  ∀ s : State,
    exec .nop s = .next { s with status := { s.status with busy := false } } ∧
    runCommand .nop s = .next { s with
      cmdWord := 0x00000000#32
      snap := snapshotOf s
      status :=
        { busy := false, err := false, keyValid := s.status.keyValid, ovr := false, errCode := .none, errInfo := 0 } }

/-- R100: KEYSET with a legal length binds the schedule of `KEY[0..n-1]`, and changes nothing else. -/
def Obligations.KeysetResult : Prop :=
  ∀ s : State, 1 ≤ s.snap.keyLen.toNat → s.snap.keyLen.toNat ≤ 56 →
    exec .keyset s = .next { s with
      sched := bfSchedule (s.snap.key.toList.take s.snap.keyLen.toNat)
      status := { s.status with keyValid := true, busy := false } }

/-- R142, R140: TOBYTES completes, `BLK[i] = ID[8i+7:8i]`, and nothing else changes. -/
def Obligations.TobytesResult : Prop :=
  ∀ s : State, ∃ b : Block,
    (∀ i : Fin 8, b[i] = s.snap.id.extractLsb' (8 * i.val) 8) ∧
    exec .tobytes s = .next { s with blk := b, status := { s.status with busy := false } }

/-- R143, R141: FROMBYTES completes, `ID[8i+7:8i] = BLK[i]`, and nothing else changes. -/
def Obligations.FrombytesResult : Prop :=
  ∀ s : State, ∃ x : IdWord,
    (∀ i : Fin 8, x.extractLsb' (8 * i.val) 8 = s.snap.blk[i]) ∧
    exec .frombytes s = .next { s with id := x, status := { s.status with busy := false } }

/-- R108, R106, R104, R110: F byte by byte; the forward function round by round over `P[0..15]`, then the last swap undone and
the two whitening words; and ENC with a key bound completes, `BLK` is that function of its big-endian halves, and nothing else
changes. -/
def Obligations.EncResult : Prop :=
  (∀ (s : SBoxes) (x : Word), roundF s x =
    (((s[0])[(x.extractLsb' 24 8).toNat] + (s[1])[(x.extractLsb' 16 8).toNat]) ^^^ (s[2])[(x.extractLsb' 8 8).toNat])
      + (s[3])[(x.extractLsb' 0 8).toNat]) ∧
  (∀ (k : Schedule) (x : Word × Word), ∃ l r : Nat → Word, (l 0, r 0) = x ∧
    (∀ i : Fin 16, r (i.val + 1) = l i.val ^^^ k.p[i.val] ∧
      l (i.val + 1) = r i.val ^^^ roundF k.s (l i.val ^^^ k.p[i.val])) ∧
    bfEncLR k x = (r 16 ^^^ k.p[17], l 16 ^^^ k.p[16])) ∧
  (∀ s : State, s.status.keyValid = true → ∃ b : Block, b = encryptBlock s.sched s.snap.blk ∧
    (b[0] ++ b[1] ++ b[2] ++ b[3], b[4] ++ b[5] ++ b[6] ++ b[7]) =
      bfEncLR s.sched
        (s.snap.blk[0] ++ s.snap.blk[1] ++ s.snap.blk[2] ++ s.snap.blk[3],
         s.snap.blk[4] ++ s.snap.blk[5] ++ s.snap.blk[6] ++ s.snap.blk[7]) ∧
    exec .enc s = .next { s with blk := b, status := { s.status with busy := false } })

/-- R109, R107, R105: the inverse function round by round over `P[17]` down to `P[2]`, then the last swap undone and the two
whitening words; and DEC with a key bound completes, `BLK` is that function of its big-endian halves, and nothing else
changes. F is stated with ENC. -/
def Obligations.DecResult : Prop :=
  (∀ (k : Schedule) (x : Word × Word), ∃ l r : Nat → Word, (l 0, r 0) = x ∧
    (∀ i : Fin 16, r (i.val + 1) = l i.val ^^^ k.p[17 - i.val] ∧
      l (i.val + 1) = r i.val ^^^ roundF k.s (l i.val ^^^ k.p[17 - i.val])) ∧
    bfDecLR k x = (r 16 ^^^ k.p[0], l 16 ^^^ k.p[1])) ∧
  (∀ s : State, s.status.keyValid = true → ∃ b : Block, b = decryptBlock s.sched s.snap.blk ∧
    (b[0] ++ b[1] ++ b[2] ++ b[3], b[4] ++ b[5] ++ b[6] ++ b[7]) =
      bfDecLR s.sched
        (s.snap.blk[0] ++ s.snap.blk[1] ++ s.snap.blk[2] ++ s.snap.blk[3],
         s.snap.blk[4] ++ s.snap.blk[5] ++ s.snap.blk[6] ++ s.snap.blk[7]) ∧
    exec .dec s = .next { s with blk := b, status := { s.status with busy := false } })

/-- R154, R151: B32ENC completes; `TXT` holds the 13 characters as R151's byte table cuts them, then three zero bytes,
`TXTLEN` is 13, and nothing else changes. -/
def Obligations.B32encResult : Prop :=
  ∀ s : State, exec .b32enc s = .next { s with
    txt := encodedTextByByte s.snap.blk ++ #v[0#8, 0#8, 0#8]
    txtLen := 13
    status := { s.status with busy := false } }

/-- R155, R152: B32DEC of 13 alphabet characters whose last index is even completes; `BLK` is as R152's byte list cuts it,
and nothing else changes. -/
def Obligations.B32decResult : Prop :=
  ∀ (s : State) (g : Vector (BitVec 5) 13), s.snap.txtLen = 13 →
    (∀ j : Fin 13, symbolIndex (textChar s.snap.txt j) = some g[j]) → g[12].getLsbD 0 = false →
    exec .b32dec s = .next { s with blk := decodedBlockByByte g, status := { s.status with busy := false } }

/-- R170: PUBID with a key bound completes; `BLK` is the encrypted block of `ID`, `ID` its little-endian value, and nothing
else changes. -/
def Obligations.PubidResult : Prop :=
  ∀ s : State, s.status.keyValid = true →
    exec .pubid s = .next { s with
      blk := encryptBlock s.sched (toBytes s.snap.id)
      id := fromBytes (encryptBlock s.sched (toBytes s.snap.id))
      status := { s.status with busy := false } }

/-- R171: HPUBID with a key bound completes; `BLK` is the encrypted block of `ID`, `TXT` its encoding by R151's byte table,
`TXTLEN` is 13, and nothing else changes. -/
def Obligations.HpubidResult : Prop :=
  ∀ s : State, s.status.keyValid = true →
    exec .hpubid s = .next { s with
      blk := encryptBlock s.sched (toBytes s.snap.id)
      txt := encodedTextByByte (encryptBlock s.sched (toBytes s.snap.id)) ++ #v[0#8, 0#8, 0#8]
      txtLen := 13
      status := { s.status with busy := false } }

/-- R172: HTOID with a key bound and a text that Decode accepts completes; `BLK` is the decrypted block, `ID` its little-endian
value, and nothing else changes. -/
def Obligations.HtoidResult : Prop :=
  ∀ (s : State) (g : Vector (BitVec 5) 13), s.status.keyValid = true → s.snap.txtLen = 13 →
    (∀ j : Fin 13, symbolIndex (textChar s.snap.txt j) = some g[j]) → g[12].getLsbD 0 = false →
    exec .htoid s = .next { s with
      blk := decryptBlock s.sched (decodedBlockByByte g)
      id := fromBytes (decryptBlock s.sched (decodedBlockByByte g))
      status := { s.status with busy := false } }

/-! ## The functions behind the commands -/

/-- R111: Decrypt and Encrypt are inverse for every schedule, so Encrypt is a permutation of the blocks. -/
def Obligations.CipherIsInvertible : Prop :=
  ∀ k : Schedule,
    (∀ b : Block, decryptBlock k (encryptBlock k b) = b) ∧
    (∀ b : Block, encryptBlock k (decryptBlock k b) = b) ∧
    Function.Bijective (encryptBlock k)

/-- R103: the first loop leaves in `P[i]` the word `P_INIT[i]` XOR the four key bytes from index 4i on, cycled and
big-endian. From that P, `S_INIT` and the pair `(0, 0)`, each of 521 pairs is the encryption of the pair before it under P and S
as updated so far, and is stored in the next two words, first of P, then of `S[0]` to `S[3]`; what the last one leaves is the
schedule. -/
def Obligations.ScheduleConstruction : Prop :=
  ∀ key : List Byte, key ≠ [] →
    (∀ i : Fin 18, (mixKey key pInit)[i] = pInit[i] ^^^
      (cycledKeyByte key (4 * i.val) ++ cycledKeyByte key (4 * i.val + 1) ++
        cycledKeyByte key (4 * i.val + 2) ++ cycledKeyByte key (4 * i.val + 3))) ∧
    ∃ (k : Nat → Schedule) (x : Nat → Word × Word),
      k 0 = { p := mixKey key pInit, s := sInit } ∧ x 0 = (0, 0) ∧
      (∀ n, n < 521 → x (n + 1) = bfEncLR (k n) (x n) ∧ pairStored n (x (n + 1)) (k n) (k (n + 1))) ∧
      bfSchedule key = k 521

/-- R103, V24: the key cycles, so a key written twice gives the schedule of the key. -/
def Obligations.RepeatedKeySameSchedule : Prop :=
  ∀ key : List Byte, key ≠ [] → bfSchedule (key ++ key) = bfSchedule key

/-- R140, R141, R144: byte `i` of `ToBytes(x)` is `x[8i+7:8i]`, `FromBytes` puts it back there, and the two are inverse to
each other on every value. The spec marks `ToBytes(FromBytes(b)) = b` as its own inference from R140 and R141. -/
def Obligations.SerializersAreInverse : Prop :=
  (∀ (x : IdWord) (i : Fin 8), (toBytes x)[i] = x.extractLsb' (8 * i.val) 8) ∧
  (∀ (b : Block) (i : Fin 8), (fromBytes b).extractLsb' (8 * i.val) 8 = b[i]) ∧
  (∀ x : IdWord, fromBytes (toBytes x) = x) ∧ (∀ b : Block, toBytes (fromBytes b) = b)

/-- R150: the alphabet is the 32 characters of the source's string, in its order. -/
def Obligations.AlphabetIsTheSourceString : Prop :=
  alphabet.toList.map (fun c => Char.ofNat c.toNat) = "0123456789abcdefghjkmnpqrstvwxyz".toList

/-- R153: `IDX(c)` is the index i for which `ALPH[i]` has code `c`, and INVALID for the excluded letters, every uppercase
letter, the pad symbol and every other code outside the alphabet; and the symbol of an index is the alphabet's entry there. -/
def Obligations.SymbolLookup : Prop :=
  (∀ (c : Byte) (g : BitVec 5), symbolIndex c = some g ↔ alphabet[g.toNat] = c) ∧
  (∀ g : BitVec 5, symbol g = alphabet[g.toNat]) ∧
  (∀ c : Byte, (c ∈ [0x69#8, 0x6c#8, 0x6f#8, 0x75#8, 0x3d#8, 0x00#8] ∨ (0x41 ≤ c.toNat ∧ c.toNat ≤ 0x5a) ∨
    c ∉ alphabet.toList) → symbolIndex c = none)

/-- R157: Decode inverts Encode, Encode inverts Decode on every text Decode accepts, and the accepted texts are those of 13
alphabet characters whose last index is even. -/
def Obligations.CodecIsExact : Prop :=
  (∀ b : Block, decodeText (textBuffer (encodeText b)) 13 = .ok b) ∧
  (∀ (t : Text) (n : Byte) (b : Block), decodeText t n = .ok b →
    n = 13 ∧ ∀ j : Fin 13, (encodeText b)[j] = textChar t j) ∧
  (∀ t : Text, (∃ b, decodeText t 13 = .ok b) ↔
    ∃ g : Vector (BitVec 5) 13, (∀ j : Fin 13, textChar t j = symbol g[j]) ∧ g[12].getLsbD 0 = false)

/-- R170: under every key schedule the Public ID is a bijection of the Internal IDs. -/
def Obligations.PublicIdIsBijection : Prop :=
  ∀ k : Schedule, Function.Bijective fun x : IdWord => fromBytes (encryptBlock k (toBytes x))

/-- R173(a): after PUBID, the commands TOBYTES, DEC, FROMBYTES restore `ID`, and so do DEC, FROMBYTES straight from the
`BLK` that PUBID left; neither sequence ends in an error. -/
def Obligations.PublicIdCommandsInvert : Prop :=
  ∀ s : State, s.status.keyValid = true →
    (∃ t, runCommands [.pubid, .tobytes, .dec, .frombytes] s = .next t ∧ t.id = s.id ∧ t.status.err = false) ∧
    (∃ t, runCommands [.pubid, .dec, .frombytes] s = .next t ∧ t.id = s.id ∧ t.status.err = false)

/-- R173(b): HPUBID then HTOID restores `ID`, for every ID and every schedule, whatever host transactions arrive while each
command runs (their order is log entry 1). -/
def Obligations.HumanIdRoundTrip : Prop :=
  ∀ (s : State) (es es' : List Event),
    s.status.keyValid = true → s.status.busy = false → s.resetHeld = false →
    (∀ e ∈ es, isTransaction e = true) → (∀ e ∈ es', isTransaction e = true) →
    ∃ t, runSteps (es.length + es'.length + 4)
        { s with inbox := cmdWrite (encode .hpubid) :: (es ++ .engine :: cmdWrite (encode .htoid) :: (es' ++ [.engine])) } =
          .next t ∧
      t.id = s.id ∧ t.blk = toBytes s.id ∧ t.status.err = false ∧ t.status.busy = false

/-- R171: the text of HPUBID is 13 characters of the alphabet and three zero bytes, and it equals the text of PUBID, TOBYTES,
B32ENC. -/
def Obligations.HumanTextShape : Prop :=
  ∀ s t u : State, s.status.keyValid = true →
    runCommand .hpubid s = .next t → runCommands [.pubid, .tobytes, .b32enc] s = .next u →
    t.txt = u.txt ∧ t.txtLen = 13 ∧ t.id = s.id ∧
    (∀ j : Fin 13, textChar t.txt j ∈ alphabet.toList) ∧
    (∀ j : Fin 16, 13 ≤ j.val → t.txt[j] = 0)

/-- R173(c), R73: a command's results depend only on the registers R73 lists for it: states that agree on those end with the
same `STATUS` and, when the command succeeds, the same destinations. -/
def Obligations.ResultsDependOnOperandsOnly : Prop :=
  ∀ (i : Instr) (s s' t t' : State), operandsAgree i s s' →
    runCommand i s = .next t → runCommand i s' = .next t' →
    t.status = t'.status ∧ (t.status.err = false → destinationsAgree i t t')

/-! ## The register window -/

/-- R29, R30: the bits of `STATUS`, 0 in the reserved bits, and the number of each error code. -/
def Obligations.StatusLayout : Prop :=
  (∀ st : Status,
    (statusWord st).getLsbD 0 = st.busy ∧ (statusWord st).getLsbD 1 = st.err ∧
    (statusWord st).getLsbD 2 = st.keyValid ∧ (statusWord st).getLsbD 3 = st.ovr ∧
    (statusWord st).extractLsb' 4 4 = 0 ∧ (statusWord st).extractLsb' 8 4 = errCodeBits st.errCode ∧
    (statusWord st).extractLsb' 12 4 = 0 ∧ (statusWord st).extractLsb' 16 8 = st.errInfo ∧
    (statusWord st).extractLsb' 24 8 = 0 ∧ (errCodeBits st.errCode).toNat < 7) ∧
  errCodeBits .none = 0 ∧ errCodeBits .invalidKeyLength = 1 ∧ errCodeBits .noKey = 2 ∧
  errCodeBits .illegalCmd = 3 ∧ errCodeBits .decodeLength = 4 ∧ errCodeBits .decodeChar = 5 ∧
  errCodeBits .decodeNoncanonical = 6

/-- R52: what a read of each offset returns while the core is idle, and that it changes nothing (`answer` records the bus
response, log entry 2). -/
def Obligations.IdleReads : Prop :=
  ∀ s : State, s.resetHeld = false → s.status.busy = false →
    hostRead 0x00 4 s = answer (some 0) false s ∧
    hostRead 0x04 4 s = answer (some (statusWord s.status)) false s ∧
    hostRead 0x08 4 s = answer (some (0#24 ++ s.keyLen)) false s ∧
    hostRead 0x0C 4 s = answer (some (0#24 ++ s.txtLen)) false s ∧
    hostRead 0x10 4 s = answer (some (s.id.extractLsb' 0 32)) false s ∧
    hostRead 0x14 4 s = answer (some (s.id.extractLsb' 32 32)) false s ∧
    hostRead 0x18 4 s = answer (some (s.blk[3] ++ s.blk[2] ++ s.blk[1] ++ s.blk[0])) false s ∧
    hostRead 0x1C 4 s = answer (some (s.blk[7] ++ s.blk[6] ++ s.blk[5] ++ s.blk[4])) false s ∧
    (∀ k : Fin 4, hostRead (BitVec.ofNat 7 (0x20 + 4 * k.val)) 4 s =
      answer (some (s.txt[4 * k.val + 3] ++ s.txt[4 * k.val + 2] ++ s.txt[4 * k.val + 1] ++ s.txt[4 * k.val])) false s) ∧
    hostRead 0x30 4 s = answer (some 0x49444801#32) false s ∧
    (∀ k : Fin 14, hostRead (BitVec.ofNat 7 (0x40 + 4 * k.val)) 4 s = answer (some 0) false s) ∧
    (∀ off ∈ [0x34#7, 0x38#7, 0x3C#7, 0x78#7, 0x7C#7], hostRead off 4 s = answer (some 0) false s)

/-- R52, R22 to R27: what a write to each data and length register stores while the core is idle, and nothing else changes; a
write to a read-only register or a reserved offset is ignored (`answer` records the bus response, log entry 2). -/
def Obligations.IdleWrites : Prop :=
  ∀ (s : State) (v : Word), s.resetHeld = false → s.status.busy = false →
    hostWrite 0x08 4 v s = answer none false { s with keyLen := v.extractLsb' 0 8 } ∧
    hostWrite 0x0C 4 v s = answer none false { s with txtLen := v.extractLsb' 0 8 } ∧
    hostWrite 0x10 4 v s = answer none false { s with id := s.id.extractLsb' 32 32 ++ v } ∧
    hostWrite 0x14 4 v s = answer none false { s with id := v ++ s.id.extractLsb' 0 32 } ∧
    (∃ b : Block, hostWrite 0x18 4 v s = answer none false { s with blk := b } ∧
      ∀ i : Fin 8, b[i] = if i.val < 4 then v.extractLsb' (8 * i.val) 8 else s.blk[i]) ∧
    (∃ b : Block, hostWrite 0x1C 4 v s = answer none false { s with blk := b } ∧
      ∀ i : Fin 8, b[i] = if i.val < 4 then s.blk[i] else v.extractLsb' (8 * (i.val - 4)) 8) ∧
    (∀ k : Fin 4, ∃ t : Text,
      hostWrite (BitVec.ofNat 7 (0x20 + 4 * k.val)) 4 v s = answer none false { s with txt := t } ∧
      ∀ j : Fin 16, t[j] = if j.val / 4 = k.val then v.extractLsb' (8 * (j.val % 4)) 8 else s.txt[j]) ∧
    (∀ k : Fin 14, ∃ b : KeyBytes,
      hostWrite (BitVec.ofNat 7 (0x40 + 4 * k.val)) 4 v s = answer none false { s with key := b } ∧
      ∀ j : Fin 56, b[j] = if j.val / 4 = k.val then v.extractLsb' (8 * (j.val % 4)) 8 else s.key[j]) ∧
    (∀ off ∈ [0x04#7, 0x30#7, 0x34#7, 0x38#7, 0x3C#7, 0x78#7, 0x7C#7], hostWrite off 4 v s = answer none false s)

/-- R22 to R27, R54: a data register reads back what was written to it (a length register its low 8 bits), and every register
of another slot reads as before. -/
def Obligations.WriteThenRead : Prop :=
  ∀ (s t : State) (off off' : BitVec 7) (v : Word),
    s.resetHeld = false → s.status.busy = false → off.toNat % 4 = 0 → off'.toNat % 4 = 0 → off ≠ 0 →
    runSteps 2 { s with inbox := [.write (.offset off) 4 v, .read (.offset off') 4] } = .next t →
    t.reply = some
      { data := some (if off = off' then
          match regAt off with
          | .keyLen => v &&& 0xFF#32
          | .txtLen => v &&& 0xFF#32
          | .idLo => v
          | .idHi => v
          | .blkLo => v
          | .blkHi => v
          | .txt _ => v
          | .cmd => readReg s (regAt off)
          | .status => readReg s (regAt off)
          | .version => readReg s (regAt off)
          | .key _ => readReg s (regAt off)
          | .rsvd => readReg s (regAt off)
        else readReg s (regAt off'))
        busError := false }

/-- R53: an access that is not an aligned 32-bit one stores nothing, presents no command, sets no `OVR`, and a read of it
returns 0, whether the core is busy or in reset. -/
def Obligations.MisalignedAccessRefused : Prop :=
  ∀ (off : BitVec 7) (width : Nat) (v : Word) (s : State), ¬ (off.toNat % 4 = 0 ∧ width = 4) →
    hostWrite off width v s = answer none Config.busSignalsErrors s ∧
    hostRead off width s = answer (some 0) Config.busSignalsErrors s

/-- R231: while busy every aligned write, to any offset, stores nothing, presents no command and sets `OVR`; a set `OVR`
stays until a step accepts a command or resets the core. -/
def Obligations.WritesWhileBusyDropped : Prop :=
  (∀ (s : State) (off : BitVec 7) (v : Word) (rest : List Event),
    s.inbox = .write (.offset off) 4 v :: rest → off.toNat % 4 = 0 → s.resetHeld = false → s.status.busy = true →
    ∃ reply, step s = .next { s with
      inbox := rest
      reply := reply
      status := { s.status with ovr := true } }) ∧
  (∀ s t : State, step s = .next t → s.status.ovr = true → t.status.ovr = false →
    ∃ e rest, s.inbox = e :: rest ∧
      ((presentsCommand e = true ∧ s.status.busy = false ∧ t.status.busy = true) ∨ e = .resetAssert))

/-- R232: while busy a read of `TXTLEN`, `ID`, `BLK` or `TXT` returns some word, of which nothing is said, and changes no
state of the core; reads of the other registers return what they return when idle. -/
def Obligations.ReadsWhileBusy : Prop :=
  ∀ (s : State) (off : BitVec 7), s.resetHeld = false → s.status.busy = true → off.toNat % 4 = 0 →
    (unspecifiedWhileBusy (regAt off) = true →
      ∃ w, hostRead off 4 s = answer (some w) false { s with draws := s.draws + 1 }) ∧
    (off ∈ [0x0C#7, 0x10#7, 0x14#7, 0x18#7, 0x1C#7, 0x20#7, 0x24#7, 0x28#7, 0x2C#7] ↔
      unspecifiedWhileBusy (regAt off) = true) ∧
    hostRead 0x04 4 s = answer (some (statusWord s.status)) false s ∧
    hostRead 0x08 4 s = answer (some (0#24 ++ s.keyLen)) false s ∧
    hostRead 0x30 4 s = answer (some 0x49444801#32) false s ∧
    (∀ o ∈ [0x00#7, 0x34#7, 0x38#7, 0x3C#7, 0x78#7, 0x7C#7], hostRead o 4 s = answer (some 0) false s) ∧
    (∀ k : Fin 14, hostRead (BitVec.ofNat 7 (0x40 + 4 * k.val)) 4 s = answer (some 0) false s)

/-- R52, R56(c): a read, of any width at any address, changes no state of the core. -/
def Obligations.ReadsChangeNothing : Prop :=
  ∀ (s t : State) (a : Target) (width : Nat) (rest : List Event),
    s.inbox = .read a width :: rest → step s = .next t →
    t = { s with inbox := rest, reply := t.reply, draws := t.draws }

/-- R51: an address inside the window reaches the offset `a - BASE`; an access outside it does not reach the core, and leaves
no bus response (log entry 3). -/
def Obligations.WindowAddresses : Prop :=
  ∀ (s : State) (a width : Nat) (v : Word),
    Config.base % 0x80 = 0 ∧
    (∀ off : BitVec 7, a = Config.base + off.toNat →
      serveWrite (.address a) width v s = hostWrite off width v s ∧
      serveRead (.address a) width s = hostRead off width s) ∧
    ((a < Config.base ∨ Config.base + 0x80 ≤ a) →
      serveWrite (.address a) width v s = s ∧ serveRead (.address a) width s = s)

/-- R26, R28, R58: no host read depends on the key buffer, the key schedule or the key in the snapshot. -/
def Obligations.KeyMaterialUnreadable : Prop :=
  ∀ (s t t' : State) (key snapKey : KeyBytes) (k : Schedule) (a : Target) (width : Nat) (rest : List Event),
    s.inbox = .read a width :: rest → step s = .next t →
    step { s with key := key, sched := k, snap := { s.snap with key := snapKey } } = .next t' →
    t'.reply = t.reply ∧ t'.draws = t.draws

/-! ## Reset -/

/-- R230, R38: asserting reset abandons the command in flight and gives every register its reset value; while it is held,
aligned writes are ignored and reads return 0; releasing it changes nothing else (the two edges are log entry 8, the bus
response is log entry 2). -/
def Obligations.ResetBehaviour : Prop :=
  ∀ s : State,
    (∀ rest, s.inbox = .resetAssert :: rest → ∃ t, step s = .next t ∧
      t.id = 0 ∧ t.blk = Vector.replicate 8 0 ∧ t.txt = Vector.replicate 16 0 ∧ t.txtLen = 0 ∧
      t.key = Vector.replicate 56 0 ∧ t.keyLen = 0 ∧ statusWord t.status = 0 ∧ t.resetHeld = true ∧ t.inbox = rest) ∧
    (∀ (off : BitVec 7) (v : Word), s.resetHeld = true → off.toNat % 4 = 0 →
      hostWrite off 4 v s = answer none false s ∧ hostRead off 4 s = answer (some 0) false s) ∧
    (∀ rest, s.inbox = .resetRelease :: rest → step s = .next { s with inbox := rest, resetHeld := false })

/-- R38: the values the spec gives for reset, at `State.reset`; the core is idle and not held in reset (log entry 8). -/
def Obligations.ResetState : Prop :=
  State.reset.id = 0 ∧ (∀ i : Fin 8, State.reset.blk[i] = 0) ∧ (∀ i : Fin 16, State.reset.txt[i] = 0) ∧
  State.reset.txtLen = 0 ∧ (∀ i : Fin 56, State.reset.key[i] = 0) ∧ State.reset.keyLen = 0 ∧
  statusWord State.reset.status = 0 ∧ State.reset.resetHeld = false

/-! ## Rules of the whole machine -/

/-- The invariant holds at reset (its clauses that are the model's are log entries 8 and 10). -/
def Obligations.ResetSatisfiesInvariant : Prop := CoreInv State.reset

/-- Every step keeps the invariant: `ERR` is 1 exactly when `ERRCODE` is not 0 (R29), the error information is one its code
allows (R31), the operand registers stand still while a command runs (R36), a bound schedule is the schedule of a
legal key (R28, R101 to R103), and reset holds the registers at their values (R230). Two clauses are the model's: that the
registers hold their values while reset is still asserted (log entry 8), and that the snapshot is of every operand register
(log entry 10). -/
def Obligations.StepKeepsInvariant : Prop :=
  ∀ s t : State, CoreInv s → step s = .next t → CoreInv t

/-- R37: `KEY_VALID` changes only where a KEYSET is accepted, where one completes with a legal length, or at reset. -/
def Obligations.KeyValidChanges : Prop :=
  ∀ s t : State, step s = .next t → t.status.keyValid ≠ s.status.keyValid →
    (t.status.keyValid = false ∧ s.status.busy = false ∧ t.status.busy = true ∧ t.cmdWord = encode .keyset) ∨
    (t.status.keyValid = true ∧ s.status.busy = true ∧ s.cmdWord = encode .keyset ∧
      keyLengthLegal s.snap.keyLen = true) ∨
    (∃ rest, s.inbox = .resetAssert :: rest)

/-- R28, R63, R237: the key schedule changes only where a KEYSET with a legal length completes, and is then the schedule of the
key as its acceptance saw it, or at reset. -/
def Obligations.ScheduleChanges : Prop :=
  ∀ s t : State, step s = .next t → t.sched ≠ s.sched →
    (s.status.busy = true ∧ s.cmdWord = encode .keyset ∧ keyLengthLegal s.snap.keyLen = true ∧
      t.sched = bfSchedule (s.snap.key.toList.take s.snap.keyLen.toNat)) ∨
    (∃ rest, s.inbox = .resetAssert :: rest)

/-- R37: only a write dropped while busy sets `OVR`. -/
def Obligations.OverrunSetOnlyByDroppedWrite : Prop :=
  ∀ s t : State, step s = .next t → s.status.ovr = false → t.status.ovr = true →
    s.status.busy = true ∧ ∃ e rest, s.inbox = e :: rest ∧ isAlignedWrite e = true

/-- R213: an idle core keeps its whole `STATUS`, the error status among it, until a command is accepted or reset comes. -/
def Obligations.IdleStatusPersists : Prop :=
  ∀ s t : State, step s = .next t → s.status.busy = false →
    (∀ e rest, s.inbox = e :: rest → presentsCommand e = false ∧ e ≠ .resetAssert) →
    t.status = s.status

/-- R63, R237: the key buffer and its length do not matter to any command but KEYSET. That the snapshot of such a command holds a
copy of them is the model's: log entry 10. -/
def Obligations.KeyCoherence : Prop :=
  ∀ (i : Instr) (s t : State) (key : KeyBytes) (n : Byte), i ≠ .keyset → runCommand i s = .next t →
    runCommand i { s with key := key, keyLen := n } =
      .next { t with key := key, keyLen := n, snap := { t.snap with key := key, keyLen := n } }

/-- R59, R201: a step that ends a command ends it whole: `BUSY` falls only at the engine's turn, with the state that the command
in flight gives, or at reset, with none of its results. -/
def Obligations.BusyFallsOnlyAtCompletion : Prop :=
  ∀ s t : State, step s = .next t → s.status.busy = true → t.status.busy = false →
    ((s.inbox = [] ∨ ∃ rest, s.inbox = .engine :: rest) ∧ stepEngine { s with inbox := s.inbox.tail } = .next t) ∨
    (∃ rest, s.inbox = .resetAssert :: rest ∧ t = resetAssert { s with inbox := rest })
end

