-- ==== Sys2Proof/Laws/Bits.lean ====
section
/-!
SUPPORT. A bit of a concatenation `{a, b}`, at the widths the model concatenates (the library's lemma is stated at the width
`w + v`, which simp does not match against a literal width).
-/

namespace Sys2Proof.Laws

theorem getLsbD_append_8_8 (x : BitVec 8) (y : BitVec 8) (i : Nat) :
    (x ++ y : BitVec 16).getLsbD i = if i < 8 then y.getLsbD i else x.getLsbD (i - 8) :=
  BitVec.getLsbD_append

theorem getLsbD_append_16_8 (x : BitVec 16) (y : BitVec 8) (i : Nat) :
    (x ++ y : BitVec 24).getLsbD i = if i < 8 then y.getLsbD i else x.getLsbD (i - 8) :=
  BitVec.getLsbD_append

theorem getLsbD_append_24_8 (x : BitVec 24) (y : BitVec 8) (i : Nat) :
    (x ++ y : BitVec 32).getLsbD i = if i < 8 then y.getLsbD i else x.getLsbD (i - 8) :=
  BitVec.getLsbD_append

theorem getLsbD_append_32_8 (x : BitVec 32) (y : BitVec 8) (i : Nat) :
    (x ++ y : BitVec 40).getLsbD i = if i < 8 then y.getLsbD i else x.getLsbD (i - 8) :=
  BitVec.getLsbD_append

theorem getLsbD_append_40_8 (x : BitVec 40) (y : BitVec 8) (i : Nat) :
    (x ++ y : BitVec 48).getLsbD i = if i < 8 then y.getLsbD i else x.getLsbD (i - 8) :=
  BitVec.getLsbD_append

theorem getLsbD_append_48_8 (x : BitVec 48) (y : BitVec 8) (i : Nat) :
    (x ++ y : BitVec 56).getLsbD i = if i < 8 then y.getLsbD i else x.getLsbD (i - 8) :=
  BitVec.getLsbD_append

theorem getLsbD_append_56_8 (x : BitVec 56) (y : BitVec 8) (i : Nat) :
    (x ++ y : BitVec 64).getLsbD i = if i < 8 then y.getLsbD i else x.getLsbD (i - 8) :=
  BitVec.getLsbD_append

theorem getLsbD_append_64_1 (x : BitVec 64) (y : BitVec 1) (i : Nat) :
    (x ++ y : BitVec 65).getLsbD i = if i < 1 then y.getLsbD i else x.getLsbD (i - 1) :=
  BitVec.getLsbD_append

theorem getLsbD_append_32_32 (x : BitVec 32) (y : BitVec 32) (i : Nat) :
    (x ++ y : BitVec 64).getLsbD i = if i < 32 then y.getLsbD i else x.getLsbD (i - 32) :=
  BitVec.getLsbD_append

theorem getLsbD_append_5_5 (x : BitVec 5) (y : BitVec 5) (i : Nat) :
    (x ++ y : BitVec 10).getLsbD i = if i < 5 then y.getLsbD i else x.getLsbD (i - 5) :=
  BitVec.getLsbD_append

theorem getLsbD_append_10_5 (x : BitVec 10) (y : BitVec 5) (i : Nat) :
    (x ++ y : BitVec 15).getLsbD i = if i < 5 then y.getLsbD i else x.getLsbD (i - 5) :=
  BitVec.getLsbD_append

theorem getLsbD_append_15_5 (x : BitVec 15) (y : BitVec 5) (i : Nat) :
    (x ++ y : BitVec 20).getLsbD i = if i < 5 then y.getLsbD i else x.getLsbD (i - 5) :=
  BitVec.getLsbD_append

theorem getLsbD_append_20_5 (x : BitVec 20) (y : BitVec 5) (i : Nat) :
    (x ++ y : BitVec 25).getLsbD i = if i < 5 then y.getLsbD i else x.getLsbD (i - 5) :=
  BitVec.getLsbD_append

theorem getLsbD_append_25_5 (x : BitVec 25) (y : BitVec 5) (i : Nat) :
    (x ++ y : BitVec 30).getLsbD i = if i < 5 then y.getLsbD i else x.getLsbD (i - 5) :=
  BitVec.getLsbD_append

theorem getLsbD_append_30_5 (x : BitVec 30) (y : BitVec 5) (i : Nat) :
    (x ++ y : BitVec 35).getLsbD i = if i < 5 then y.getLsbD i else x.getLsbD (i - 5) :=
  BitVec.getLsbD_append

theorem getLsbD_append_35_5 (x : BitVec 35) (y : BitVec 5) (i : Nat) :
    (x ++ y : BitVec 40).getLsbD i = if i < 5 then y.getLsbD i else x.getLsbD (i - 5) :=
  BitVec.getLsbD_append

theorem getLsbD_append_40_5 (x : BitVec 40) (y : BitVec 5) (i : Nat) :
    (x ++ y : BitVec 45).getLsbD i = if i < 5 then y.getLsbD i else x.getLsbD (i - 5) :=
  BitVec.getLsbD_append

theorem getLsbD_append_45_5 (x : BitVec 45) (y : BitVec 5) (i : Nat) :
    (x ++ y : BitVec 50).getLsbD i = if i < 5 then y.getLsbD i else x.getLsbD (i - 5) :=
  BitVec.getLsbD_append

theorem getLsbD_append_50_5 (x : BitVec 50) (y : BitVec 5) (i : Nat) :
    (x ++ y : BitVec 55).getLsbD i = if i < 5 then y.getLsbD i else x.getLsbD (i - 5) :=
  BitVec.getLsbD_append

theorem getLsbD_append_55_5 (x : BitVec 55) (y : BitVec 5) (i : Nat) :
    (x ++ y : BitVec 60).getLsbD i = if i < 5 then y.getLsbD i else x.getLsbD (i - 5) :=
  BitVec.getLsbD_append

theorem getLsbD_append_60_5 (x : BitVec 60) (y : BitVec 5) (i : Nat) :
    (x ++ y : BitVec 65).getLsbD i = if i < 5 then y.getLsbD i else x.getLsbD (i - 5) :=
  BitVec.getLsbD_append

theorem getLsbD_append_3_2 (x : BitVec 3) (y : BitVec 2) (i : Nat) :
    (x ++ y : BitVec 5).getLsbD i = if i < 2 then y.getLsbD i else x.getLsbD (i - 2) :=
  BitVec.getLsbD_append

theorem getLsbD_append_1_4 (x : BitVec 1) (y : BitVec 4) (i : Nat) :
    (x ++ y : BitVec 5).getLsbD i = if i < 4 then y.getLsbD i else x.getLsbD (i - 4) :=
  BitVec.getLsbD_append

theorem getLsbD_append_4_1 (x : BitVec 4) (y : BitVec 1) (i : Nat) :
    (x ++ y : BitVec 5).getLsbD i = if i < 1 then y.getLsbD i else x.getLsbD (i - 1) :=
  BitVec.getLsbD_append

theorem getLsbD_append_2_3 (x : BitVec 2) (y : BitVec 3) (i : Nat) :
    (x ++ y : BitVec 5).getLsbD i = if i < 3 then y.getLsbD i else x.getLsbD (i - 3) :=
  BitVec.getLsbD_append

theorem getLsbD_append_2_5 (x : BitVec 2) (y : BitVec 5) (i : Nat) :
    (x ++ y : BitVec 7).getLsbD i = if i < 5 then y.getLsbD i else x.getLsbD (i - 5) :=
  BitVec.getLsbD_append

theorem getLsbD_append_7_1 (x : BitVec 7) (y : BitVec 1) (i : Nat) :
    (x ++ y : BitVec 8).getLsbD i = if i < 1 then y.getLsbD i else x.getLsbD (i - 1) :=
  BitVec.getLsbD_append

theorem getLsbD_append_4_4 (x : BitVec 4) (y : BitVec 4) (i : Nat) :
    (x ++ y : BitVec 8).getLsbD i = if i < 4 then y.getLsbD i else x.getLsbD (i - 4) :=
  BitVec.getLsbD_append

theorem getLsbD_append_1_5 (x : BitVec 1) (y : BitVec 5) (i : Nat) :
    (x ++ y : BitVec 6).getLsbD i = if i < 5 then y.getLsbD i else x.getLsbD (i - 5) :=
  BitVec.getLsbD_append

theorem getLsbD_append_6_2 (x : BitVec 6) (y : BitVec 2) (i : Nat) :
    (x ++ y : BitVec 8).getLsbD i = if i < 2 then y.getLsbD i else x.getLsbD (i - 2) :=
  BitVec.getLsbD_append

theorem getLsbD_append_3_5 (x : BitVec 3) (y : BitVec 5) (i : Nat) :
    (x ++ y : BitVec 8).getLsbD i = if i < 5 then y.getLsbD i else x.getLsbD (i - 5) :=
  BitVec.getLsbD_append

theorem getLsbD_append_5_3 (x : BitVec 5) (y : BitVec 3) (i : Nat) :
    (x ++ y : BitVec 8).getLsbD i = if i < 3 then y.getLsbD i else x.getLsbD (i - 3) :=
  BitVec.getLsbD_append

theorem getLsbD_append_16_4 (x : BitVec 16) (y : BitVec 4) (i : Nat) :
    (x ++ y : BitVec 20).getLsbD i = if i < 4 then y.getLsbD i else x.getLsbD (i - 4) :=
  BitVec.getLsbD_append

theorem getLsbD_append_20_4 (x : BitVec 20) (y : BitVec 4) (i : Nat) :
    (x ++ y : BitVec 24).getLsbD i = if i < 4 then y.getLsbD i else x.getLsbD (i - 4) :=
  BitVec.getLsbD_append

theorem getLsbD_append_24_4 (x : BitVec 24) (y : BitVec 4) (i : Nat) :
    (x ++ y : BitVec 28).getLsbD i = if i < 4 then y.getLsbD i else x.getLsbD (i - 4) :=
  BitVec.getLsbD_append

theorem getLsbD_append_28_1 (x : BitVec 28) (y : BitVec 1) (i : Nat) :
    (x ++ y : BitVec 29).getLsbD i = if i < 1 then y.getLsbD i else x.getLsbD (i - 1) :=
  BitVec.getLsbD_append

theorem getLsbD_append_29_1 (x : BitVec 29) (y : BitVec 1) (i : Nat) :
    (x ++ y : BitVec 30).getLsbD i = if i < 1 then y.getLsbD i else x.getLsbD (i - 1) :=
  BitVec.getLsbD_append

theorem getLsbD_append_30_1 (x : BitVec 30) (y : BitVec 1) (i : Nat) :
    (x ++ y : BitVec 31).getLsbD i = if i < 1 then y.getLsbD i else x.getLsbD (i - 1) :=
  BitVec.getLsbD_append

theorem getLsbD_append_31_1 (x : BitVec 31) (y : BitVec 1) (i : Nat) :
    (x ++ y : BitVec 32).getLsbD i = if i < 1 then y.getLsbD i else x.getLsbD (i - 1) :=
  BitVec.getLsbD_append

theorem getElem_append_8_8 (x : BitVec 8) (y : BitVec 8) (i : Nat) (h : i < 16) :
    (x ++ y : BitVec 16)[i] = if i < 8 then y.getLsbD i else x.getLsbD (i - 8) :=
  getLsbD_append_8_8 x y i

theorem getElem_append_16_8 (x : BitVec 16) (y : BitVec 8) (i : Nat) (h : i < 24) :
    (x ++ y : BitVec 24)[i] = if i < 8 then y.getLsbD i else x.getLsbD (i - 8) :=
  getLsbD_append_16_8 x y i

theorem getElem_append_24_8 (x : BitVec 24) (y : BitVec 8) (i : Nat) (h : i < 32) :
    (x ++ y : BitVec 32)[i] = if i < 8 then y.getLsbD i else x.getLsbD (i - 8) :=
  getLsbD_append_24_8 x y i

theorem getElem_append_32_8 (x : BitVec 32) (y : BitVec 8) (i : Nat) (h : i < 40) :
    (x ++ y : BitVec 40)[i] = if i < 8 then y.getLsbD i else x.getLsbD (i - 8) :=
  getLsbD_append_32_8 x y i

theorem getElem_append_40_8 (x : BitVec 40) (y : BitVec 8) (i : Nat) (h : i < 48) :
    (x ++ y : BitVec 48)[i] = if i < 8 then y.getLsbD i else x.getLsbD (i - 8) :=
  getLsbD_append_40_8 x y i

theorem getElem_append_48_8 (x : BitVec 48) (y : BitVec 8) (i : Nat) (h : i < 56) :
    (x ++ y : BitVec 56)[i] = if i < 8 then y.getLsbD i else x.getLsbD (i - 8) :=
  getLsbD_append_48_8 x y i

theorem getElem_append_56_8 (x : BitVec 56) (y : BitVec 8) (i : Nat) (h : i < 64) :
    (x ++ y : BitVec 64)[i] = if i < 8 then y.getLsbD i else x.getLsbD (i - 8) :=
  getLsbD_append_56_8 x y i

theorem getElem_append_64_1 (x : BitVec 64) (y : BitVec 1) (i : Nat) (h : i < 65) :
    (x ++ y : BitVec 65)[i] = if i < 1 then y.getLsbD i else x.getLsbD (i - 1) :=
  getLsbD_append_64_1 x y i

theorem getElem_append_32_32 (x : BitVec 32) (y : BitVec 32) (i : Nat) (h : i < 64) :
    (x ++ y : BitVec 64)[i] = if i < 32 then y.getLsbD i else x.getLsbD (i - 32) :=
  getLsbD_append_32_32 x y i

theorem getElem_append_5_5 (x : BitVec 5) (y : BitVec 5) (i : Nat) (h : i < 10) :
    (x ++ y : BitVec 10)[i] = if i < 5 then y.getLsbD i else x.getLsbD (i - 5) :=
  getLsbD_append_5_5 x y i

theorem getElem_append_10_5 (x : BitVec 10) (y : BitVec 5) (i : Nat) (h : i < 15) :
    (x ++ y : BitVec 15)[i] = if i < 5 then y.getLsbD i else x.getLsbD (i - 5) :=
  getLsbD_append_10_5 x y i

theorem getElem_append_15_5 (x : BitVec 15) (y : BitVec 5) (i : Nat) (h : i < 20) :
    (x ++ y : BitVec 20)[i] = if i < 5 then y.getLsbD i else x.getLsbD (i - 5) :=
  getLsbD_append_15_5 x y i

theorem getElem_append_20_5 (x : BitVec 20) (y : BitVec 5) (i : Nat) (h : i < 25) :
    (x ++ y : BitVec 25)[i] = if i < 5 then y.getLsbD i else x.getLsbD (i - 5) :=
  getLsbD_append_20_5 x y i

theorem getElem_append_25_5 (x : BitVec 25) (y : BitVec 5) (i : Nat) (h : i < 30) :
    (x ++ y : BitVec 30)[i] = if i < 5 then y.getLsbD i else x.getLsbD (i - 5) :=
  getLsbD_append_25_5 x y i

theorem getElem_append_30_5 (x : BitVec 30) (y : BitVec 5) (i : Nat) (h : i < 35) :
    (x ++ y : BitVec 35)[i] = if i < 5 then y.getLsbD i else x.getLsbD (i - 5) :=
  getLsbD_append_30_5 x y i

theorem getElem_append_35_5 (x : BitVec 35) (y : BitVec 5) (i : Nat) (h : i < 40) :
    (x ++ y : BitVec 40)[i] = if i < 5 then y.getLsbD i else x.getLsbD (i - 5) :=
  getLsbD_append_35_5 x y i

theorem getElem_append_40_5 (x : BitVec 40) (y : BitVec 5) (i : Nat) (h : i < 45) :
    (x ++ y : BitVec 45)[i] = if i < 5 then y.getLsbD i else x.getLsbD (i - 5) :=
  getLsbD_append_40_5 x y i

theorem getElem_append_45_5 (x : BitVec 45) (y : BitVec 5) (i : Nat) (h : i < 50) :
    (x ++ y : BitVec 50)[i] = if i < 5 then y.getLsbD i else x.getLsbD (i - 5) :=
  getLsbD_append_45_5 x y i

theorem getElem_append_50_5 (x : BitVec 50) (y : BitVec 5) (i : Nat) (h : i < 55) :
    (x ++ y : BitVec 55)[i] = if i < 5 then y.getLsbD i else x.getLsbD (i - 5) :=
  getLsbD_append_50_5 x y i

theorem getElem_append_55_5 (x : BitVec 55) (y : BitVec 5) (i : Nat) (h : i < 60) :
    (x ++ y : BitVec 60)[i] = if i < 5 then y.getLsbD i else x.getLsbD (i - 5) :=
  getLsbD_append_55_5 x y i

theorem getElem_append_60_5 (x : BitVec 60) (y : BitVec 5) (i : Nat) (h : i < 65) :
    (x ++ y : BitVec 65)[i] = if i < 5 then y.getLsbD i else x.getLsbD (i - 5) :=
  getLsbD_append_60_5 x y i

theorem getElem_append_3_2 (x : BitVec 3) (y : BitVec 2) (i : Nat) (h : i < 5) :
    (x ++ y : BitVec 5)[i] = if i < 2 then y.getLsbD i else x.getLsbD (i - 2) :=
  getLsbD_append_3_2 x y i

theorem getElem_append_1_4 (x : BitVec 1) (y : BitVec 4) (i : Nat) (h : i < 5) :
    (x ++ y : BitVec 5)[i] = if i < 4 then y.getLsbD i else x.getLsbD (i - 4) :=
  getLsbD_append_1_4 x y i

theorem getElem_append_4_1 (x : BitVec 4) (y : BitVec 1) (i : Nat) (h : i < 5) :
    (x ++ y : BitVec 5)[i] = if i < 1 then y.getLsbD i else x.getLsbD (i - 1) :=
  getLsbD_append_4_1 x y i

theorem getElem_append_2_3 (x : BitVec 2) (y : BitVec 3) (i : Nat) (h : i < 5) :
    (x ++ y : BitVec 5)[i] = if i < 3 then y.getLsbD i else x.getLsbD (i - 3) :=
  getLsbD_append_2_3 x y i

theorem getElem_append_2_5 (x : BitVec 2) (y : BitVec 5) (i : Nat) (h : i < 7) :
    (x ++ y : BitVec 7)[i] = if i < 5 then y.getLsbD i else x.getLsbD (i - 5) :=
  getLsbD_append_2_5 x y i

theorem getElem_append_7_1 (x : BitVec 7) (y : BitVec 1) (i : Nat) (h : i < 8) :
    (x ++ y : BitVec 8)[i] = if i < 1 then y.getLsbD i else x.getLsbD (i - 1) :=
  getLsbD_append_7_1 x y i

theorem getElem_append_4_4 (x : BitVec 4) (y : BitVec 4) (i : Nat) (h : i < 8) :
    (x ++ y : BitVec 8)[i] = if i < 4 then y.getLsbD i else x.getLsbD (i - 4) :=
  getLsbD_append_4_4 x y i

theorem getElem_append_1_5 (x : BitVec 1) (y : BitVec 5) (i : Nat) (h : i < 6) :
    (x ++ y : BitVec 6)[i] = if i < 5 then y.getLsbD i else x.getLsbD (i - 5) :=
  getLsbD_append_1_5 x y i

theorem getElem_append_6_2 (x : BitVec 6) (y : BitVec 2) (i : Nat) (h : i < 8) :
    (x ++ y : BitVec 8)[i] = if i < 2 then y.getLsbD i else x.getLsbD (i - 2) :=
  getLsbD_append_6_2 x y i

theorem getElem_append_3_5 (x : BitVec 3) (y : BitVec 5) (i : Nat) (h : i < 8) :
    (x ++ y : BitVec 8)[i] = if i < 5 then y.getLsbD i else x.getLsbD (i - 5) :=
  getLsbD_append_3_5 x y i

theorem getElem_append_5_3 (x : BitVec 5) (y : BitVec 3) (i : Nat) (h : i < 8) :
    (x ++ y : BitVec 8)[i] = if i < 3 then y.getLsbD i else x.getLsbD (i - 3) :=
  getLsbD_append_5_3 x y i

theorem getElem_append_16_4 (x : BitVec 16) (y : BitVec 4) (i : Nat) (h : i < 20) :
    (x ++ y : BitVec 20)[i] = if i < 4 then y.getLsbD i else x.getLsbD (i - 4) :=
  getLsbD_append_16_4 x y i

theorem getElem_append_20_4 (x : BitVec 20) (y : BitVec 4) (i : Nat) (h : i < 24) :
    (x ++ y : BitVec 24)[i] = if i < 4 then y.getLsbD i else x.getLsbD (i - 4) :=
  getLsbD_append_20_4 x y i

theorem getElem_append_24_4 (x : BitVec 24) (y : BitVec 4) (i : Nat) (h : i < 28) :
    (x ++ y : BitVec 28)[i] = if i < 4 then y.getLsbD i else x.getLsbD (i - 4) :=
  getLsbD_append_24_4 x y i

theorem getElem_append_28_1 (x : BitVec 28) (y : BitVec 1) (i : Nat) (h : i < 29) :
    (x ++ y : BitVec 29)[i] = if i < 1 then y.getLsbD i else x.getLsbD (i - 1) :=
  getLsbD_append_28_1 x y i

theorem getElem_append_29_1 (x : BitVec 29) (y : BitVec 1) (i : Nat) (h : i < 30) :
    (x ++ y : BitVec 30)[i] = if i < 1 then y.getLsbD i else x.getLsbD (i - 1) :=
  getLsbD_append_29_1 x y i

theorem getElem_append_30_1 (x : BitVec 30) (y : BitVec 1) (i : Nat) (h : i < 31) :
    (x ++ y : BitVec 31)[i] = if i < 1 then y.getLsbD i else x.getLsbD (i - 1) :=
  getLsbD_append_30_1 x y i

theorem getElem_append_31_1 (x : BitVec 31) (y : BitVec 1) (i : Nat) (h : i < 32) :
    (x ++ y : BitVec 32)[i] = if i < 1 then y.getLsbD i else x.getLsbD (i - 1) :=
  getLsbD_append_31_1 x y i

end Sys2Proof.Laws
end

