-- ==== Sys2Proof/Laws/Cipher.lean ====
section
/-!
SUPPORT. The halves of a block, one round undone, the P-array as a list, and the key mixing of the schedule, each said once.
-/

namespace Sys2Proof.Machine

open Sys2Proof.Laws

/-- A block is its two halves. -/
theorem halvesOfBlock_blockOfHalves (x : Word × Word) : halvesOfBlock (blockOfHalves x) = x := by
  obtain ⟨l, r⟩ := x
  simp only [halvesOfBlock, blockOfHalves, Prod.mk.injEq]
  refine ⟨?_, ?_⟩ <;> apply BitVec.eq_of_getLsbD_eq <;> intro j hj <;>
    simp [byteOfWord, getLsbD_append_8_8, getLsbD_append_16_8, getLsbD_append_24_8] <;>
    interval_cases j <;> simp

/-- Two halves are their block. -/
theorem blockOfHalves_halvesOfBlock (b : Block) : blockOfHalves (halvesOfBlock b) = b := by
  apply Vector.ext
  intro i hi
  apply BitVec.eq_of_getLsbD_eq
  intro j hj
  simp only [halvesOfBlock, blockOfHalves]
  interval_cases i <;>
    simp [byteOfWord, getLsbD_append_8_8, getLsbD_append_16_8, getLsbD_append_24_8] <;>
    interval_cases j <;> simp

/-- The P-array as a list. -/
theorem pArray_toList (p : PArray) :
    p.toList = [p[0], p[1], p[2], p[3], p[4], p[5], p[6], p[7], p[8], p[9], p[10], p[11], p[12], p[13], p[14], p[15],
      p[16], p[17]] := by
  apply List.ext_getElem
  · simp
  · intro i h1 h2
    simp at h1
    interval_cases i <;> simp

/-- The state of a run of rounds halfway through its inverse: the left half still carries the round function and `k`. -/
def halfUndone (s : SBoxes) (y : Word × Word) (k : Word) : Word × Word :=
  (y.1 ^^^ k ^^^ roundF s y.2, y.2)

theorem xor_cancel_pair (a b c : Word) : a ^^^ b ^^^ c ^^^ b ^^^ c = a := by
  rw [BitVec.xor_assoc (a ^^^ b) c b, BitVec.xor_comm c b, ← BitVec.xor_assoc, BitVec.xor_assoc a b b]
  simp

/-- One round of the inverse undoes one round. -/
theorem feistelRound_halfUndone (s : SBoxes) (y : Word × Word) (k k' : Word) :
    feistelRound s (halfUndone s (feistelRound s y k') k) k = halfUndone s y k' := by
  obtain ⟨l, r⟩ := y
  simp only [feistelRound, halfUndone, Prod.mk.injEq]
  rw [xor_cancel_pair]
  simp

/-- The first round of the inverse undoes the whitening of the right half. -/
theorem feistelRound_whiten (s : SBoxes) (y : Word × Word) (kl kr : Word) :
    feistelRound s (whiten kr kl y) kl = halfUndone s y kr := by
  simp [feistelRound, whiten, halfUndone, BitVec.xor_assoc]

/-- The whitening of the inverse undoes the first round. -/
theorem whiten_halfUndone (s : SBoxes) (x : Word × Word) (k0 k1 : Word) :
    whiten k1 k0 (halfUndone s (feistelRound s x k0) k1) = x := by
  simp [feistelRound, whiten, halfUndone, BitVec.xor_assoc]

/-- The key word that starts at byte `j` of the cycled key (R103), and where the next one starts. -/
theorem nextKeyWord_eq (key : List Byte) (j : Nat) :
    nextKeyWord key (j % key.length) =
      (key.getD (j % key.length) 0 ++ key.getD ((j + 1) % key.length) 0 ++ key.getD ((j + 2) % key.length) 0 ++
        key.getD ((j + 3) % key.length) 0, (j + 4) % key.length) := by
  have e : List.range 4 = [0, 1, 2, 3] := rfl
  simp only [nextKeyWord, e, List.foldl]
  have h1 : (j % key.length + 1) % key.length = (j + 1) % key.length := by rw [Nat.mod_add_mod]
  have h2 : ((j + 1) % key.length + 1) % key.length = (j + 2) % key.length := by rw [Nat.mod_add_mod]
  have h3 : ((j + 2) % key.length + 1) % key.length = (j + 3) % key.length := by rw [Nat.mod_add_mod]
  have h4 : ((j + 3) % key.length + 1) % key.length = (j + 4) % key.length := by rw [Nat.mod_add_mod]
  rw [h1, h2, h3, h4]
  generalize key.getD _ _ = a
  generalize key.getD _ _ = b
  generalize key.getD _ _ = c
  generalize key.getD _ _ = d
  congr 1
  apply BitVec.eq_of_getLsbD_eq
  intro i hi
  simp only [BitVec.getLsbD_or, BitVec.getLsbD_shiftLeft, BitVec.getLsbD_setWidth]
  interval_cases i <;> simp [getElem_append_24_8, getElem_append_16_8, getElem_append_8_8]

/-- A step of the S phase leaves the P-array. -/
theorem fillSStep_p (m : Fin 4) (x : Schedule × (Word × Word)) (i : Fin 128) : (fillSStep m x i).1.p = x.1.p := rfl

/-- A vector after two entries that stand together are set. -/
theorem getElem_set_pair {α : Type} {n : Nat} (v : Vector α n) (a j : Nat) (x y : α) (h : a < n) (h' : a + 1 < n)
    (hj : j < n) : ((v.set a x h).set (a + 1) y h')[j] = if j = a then x else if j = a + 1 then y else v[j] := by
  rw [Vector.getElem_set, Vector.getElem_set]
  by_cases e : a + 1 = j
  · subst e
    simp
  · by_cases e' : a = j
    · subst e'
      simp
    · simp [e, e', Ne.symm e, Ne.symm e']

/-- A step of the P phase stores its pair. -/
theorem fillPStep_pairStored (x : Schedule × (Word × Word)) (i : Fin 9) :
    pairStored i.val (bfEncLR x.1 x.2) x.1 (fillPStep x i).1 := by
  refine ⟨fun j => getElem_set_pair x.1.p (2 * i.val) j.val _ _ (by omega) (by omega) (by omega), fun m j => ?_⟩
  rw [if_neg (by omega), if_neg (by omega)]
  rfl

/-- A step of the S phase stores its pair; the S phase begins with the tenth pair. -/
theorem fillSStep_pairStored (m : Fin 4) (x : Schedule × (Word × Word)) (i : Fin 128) :
    pairStored (9 + 128 * m.val + i.val) (bfEncLR x.1 x.2) x.1 (fillSStep m x i).1 := by
  refine ⟨fun j => ?_, fun m' j => ?_⟩
  · rw [if_neg (by omega), if_neg (by omega)]
    rfl
  · by_cases e : m = m'
    · subst e
      have h : (fillSStep m x i).1.s[m] =
          ((x.1.s[m]).set (2 * i.val) (bfEncLR x.1 x.2).1 (by omega)).set (2 * i.val + 1) (bfEncLR x.1 x.2).2
            (by omega) := Vector.getElem_set_self _
      have e1 : j.val = 2 * i.val ↔ 18 + 256 * m.val + j.val = 2 * (9 + 128 * m.val + i.val) := by omega
      have e2 : j.val = 2 * i.val + 1 ↔ 18 + 256 * m.val + j.val = 2 * (9 + 128 * m.val + i.val) + 1 := by omega
      rw [h]
      refine (getElem_set_pair _ _ j.val _ _ (by omega) (by omega) (by omega)).trans ?_
      simp only [e1, e2]
      rfl
    · have h : (fillSStep m x i).1.s[m'] = x.1.s[m'] :=
        Vector.getElem_set_ne m.isLt m'.isLt (fun h => e (Fin.ext h))
      rw [h, if_neg (by omega), if_neg (by omega)]

end Sys2Proof.Machine
end

