-- ==== Sys2Proof/Laws/State.lean ====
section
/-!
SUPPORT. One lemma per field per update of State, true by rfl, so that no proof unfolds a record update.
-/

namespace Sys2Proof.Machine

@[simp] theorem accept_id (v : Word) (s : State) : (accept v s).id = s.id := rfl
@[simp] theorem accept_blk (v : Word) (s : State) : (accept v s).blk = s.blk := rfl
@[simp] theorem accept_txt (v : Word) (s : State) : (accept v s).txt = s.txt := rfl
@[simp] theorem accept_txtLen (v : Word) (s : State) : (accept v s).txtLen = s.txtLen := rfl
@[simp] theorem accept_key (v : Word) (s : State) : (accept v s).key = s.key := rfl
@[simp] theorem accept_keyLen (v : Word) (s : State) : (accept v s).keyLen = s.keyLen := rfl
@[simp] theorem accept_status (v : Word) (s : State) : (accept v s).status = statusAtAcceptance v s.status := rfl
@[simp] theorem accept_sched (v : Word) (s : State) : (accept v s).sched = s.sched := rfl
@[simp] theorem accept_cmdWord (v : Word) (s : State) : (accept v s).cmdWord = v := rfl
@[simp] theorem accept_snap (v : Word) (s : State) : (accept v s).snap = snapshotOf s := rfl
@[simp] theorem accept_resetHeld (v : Word) (s : State) : (accept v s).resetHeld = s.resetHeld := rfl
@[simp] theorem accept_inbox (v : Word) (s : State) : (accept v s).inbox = s.inbox := rfl
@[simp] theorem accept_reply (v : Word) (s : State) : (accept v s).reply = s.reply := rfl
@[simp] theorem accept_draws (v : Word) (s : State) : (accept v s).draws = s.draws := rfl

@[simp] theorem raise_id (e : CmdError) (s : State) : (raise e s).id = s.id := rfl
@[simp] theorem raise_blk (e : CmdError) (s : State) : (raise e s).blk = s.blk := rfl
@[simp] theorem raise_txt (e : CmdError) (s : State) : (raise e s).txt = s.txt := rfl
@[simp] theorem raise_txtLen (e : CmdError) (s : State) : (raise e s).txtLen = s.txtLen := rfl
@[simp] theorem raise_key (e : CmdError) (s : State) : (raise e s).key = s.key := rfl
@[simp] theorem raise_keyLen (e : CmdError) (s : State) : (raise e s).keyLen = s.keyLen := rfl
@[simp] theorem raise_status (e : CmdError) (s : State) : (raise e s).status = statusAfterRaise e s.status := rfl
@[simp] theorem raise_sched (e : CmdError) (s : State) : (raise e s).sched = s.sched := rfl
@[simp] theorem raise_cmdWord (e : CmdError) (s : State) : (raise e s).cmdWord = s.cmdWord := rfl
@[simp] theorem raise_snap (e : CmdError) (s : State) : (raise e s).snap = s.snap := rfl
@[simp] theorem raise_resetHeld (e : CmdError) (s : State) : (raise e s).resetHeld = s.resetHeld := rfl
@[simp] theorem raise_inbox (e : CmdError) (s : State) : (raise e s).inbox = s.inbox := rfl
@[simp] theorem raise_reply (e : CmdError) (s : State) : (raise e s).reply = s.reply := rfl
@[simp] theorem raise_draws (e : CmdError) (s : State) : (raise e s).draws = s.draws := rfl

@[simp] theorem finish_id (s : State) : (finish s).id = s.id := rfl
@[simp] theorem finish_blk (s : State) : (finish s).blk = s.blk := rfl
@[simp] theorem finish_txt (s : State) : (finish s).txt = s.txt := rfl
@[simp] theorem finish_txtLen (s : State) : (finish s).txtLen = s.txtLen := rfl
@[simp] theorem finish_key (s : State) : (finish s).key = s.key := rfl
@[simp] theorem finish_keyLen (s : State) : (finish s).keyLen = s.keyLen := rfl
@[simp] theorem finish_status (s : State) : (finish s).status = statusIdle s.status := rfl
@[simp] theorem finish_sched (s : State) : (finish s).sched = s.sched := rfl
@[simp] theorem finish_cmdWord (s : State) : (finish s).cmdWord = s.cmdWord := rfl
@[simp] theorem finish_snap (s : State) : (finish s).snap = s.snap := rfl
@[simp] theorem finish_resetHeld (s : State) : (finish s).resetHeld = s.resetHeld := rfl
@[simp] theorem finish_inbox (s : State) : (finish s).inbox = s.inbox := rfl
@[simp] theorem finish_reply (s : State) : (finish s).reply = s.reply := rfl
@[simp] theorem finish_draws (s : State) : (finish s).draws = s.draws := rfl

@[simp] theorem answer_id (d : Option Word) (b : Bool) (s : State) : (answer d b s).id = s.id := rfl
@[simp] theorem answer_blk (d : Option Word) (b : Bool) (s : State) : (answer d b s).blk = s.blk := rfl
@[simp] theorem answer_txt (d : Option Word) (b : Bool) (s : State) : (answer d b s).txt = s.txt := rfl
@[simp] theorem answer_txtLen (d : Option Word) (b : Bool) (s : State) : (answer d b s).txtLen = s.txtLen := rfl
@[simp] theorem answer_key (d : Option Word) (b : Bool) (s : State) : (answer d b s).key = s.key := rfl
@[simp] theorem answer_keyLen (d : Option Word) (b : Bool) (s : State) : (answer d b s).keyLen = s.keyLen := rfl
@[simp] theorem answer_status (d : Option Word) (b : Bool) (s : State) : (answer d b s).status = s.status := rfl
@[simp] theorem answer_sched (d : Option Word) (b : Bool) (s : State) : (answer d b s).sched = s.sched := rfl
@[simp] theorem answer_cmdWord (d : Option Word) (b : Bool) (s : State) : (answer d b s).cmdWord = s.cmdWord := rfl
@[simp] theorem answer_snap (d : Option Word) (b : Bool) (s : State) : (answer d b s).snap = s.snap := rfl
@[simp] theorem answer_resetHeld (d : Option Word) (b : Bool) (s : State) : (answer d b s).resetHeld = s.resetHeld := rfl
@[simp] theorem answer_inbox (d : Option Word) (b : Bool) (s : State) : (answer d b s).inbox = s.inbox := rfl
@[simp] theorem answer_reply (d : Option Word) (b : Bool) (s : State) : (answer d b s).reply = some { data := d, busError := b } := rfl
@[simp] theorem answer_draws (d : Option Word) (b : Bool) (s : State) : (answer d b s).draws = s.draws := rfl

@[simp] theorem resetRelease_id (s : State) : (resetRelease s).id = s.id := rfl
@[simp] theorem resetRelease_blk (s : State) : (resetRelease s).blk = s.blk := rfl
@[simp] theorem resetRelease_txt (s : State) : (resetRelease s).txt = s.txt := rfl
@[simp] theorem resetRelease_txtLen (s : State) : (resetRelease s).txtLen = s.txtLen := rfl
@[simp] theorem resetRelease_key (s : State) : (resetRelease s).key = s.key := rfl
@[simp] theorem resetRelease_keyLen (s : State) : (resetRelease s).keyLen = s.keyLen := rfl
@[simp] theorem resetRelease_status (s : State) : (resetRelease s).status = s.status := rfl
@[simp] theorem resetRelease_sched (s : State) : (resetRelease s).sched = s.sched := rfl
@[simp] theorem resetRelease_cmdWord (s : State) : (resetRelease s).cmdWord = s.cmdWord := rfl
@[simp] theorem resetRelease_snap (s : State) : (resetRelease s).snap = s.snap := rfl
@[simp] theorem resetRelease_resetHeld (s : State) : (resetRelease s).resetHeld = false := rfl
@[simp] theorem resetRelease_inbox (s : State) : (resetRelease s).inbox = s.inbox := rfl
@[simp] theorem resetRelease_reply (s : State) : (resetRelease s).reply = s.reply := rfl
@[simp] theorem resetRelease_draws (s : State) : (resetRelease s).draws = s.draws := rfl

@[simp] theorem resetAssert_id (s : State) : (resetAssert s).id = 0 := rfl
@[simp] theorem resetAssert_blk (s : State) : (resetAssert s).blk = Vector.replicate 8 0 := rfl
@[simp] theorem resetAssert_txt (s : State) : (resetAssert s).txt = Vector.replicate 16 0 := rfl
@[simp] theorem resetAssert_txtLen (s : State) : (resetAssert s).txtLen = 0 := rfl
@[simp] theorem resetAssert_key (s : State) : (resetAssert s).key = Vector.replicate 56 0 := rfl
@[simp] theorem resetAssert_keyLen (s : State) : (resetAssert s).keyLen = 0 := rfl
@[simp] theorem resetAssert_status (s : State) : (resetAssert s).status = .reset := rfl
@[simp] theorem resetAssert_sched (s : State) : (resetAssert s).sched = { p := Config.resetPArray s.draws, s := Config.resetSBoxes s.draws } := rfl
@[simp] theorem resetAssert_cmdWord (s : State) : (resetAssert s).cmdWord = Config.resetCommandWord s.draws := rfl
@[simp] theorem resetAssert_resetHeld (s : State) : (resetAssert s).resetHeld = true := rfl
@[simp] theorem resetAssert_inbox (s : State) : (resetAssert s).inbox = s.inbox := rfl
@[simp] theorem resetAssert_reply (s : State) : (resetAssert s).reply = s.reply := rfl
@[simp] theorem resetAssert_draws (s : State) : (resetAssert s).draws = s.draws + 1 := rfl

@[simp] theorem storeReg_cmd (s : State) (v : Word) : storeReg s .cmd v = s := rfl
@[simp] theorem storeReg_status (s : State) (v : Word) : storeReg s .status v = s := rfl
@[simp] theorem storeReg_version (s : State) (v : Word) : storeReg s .version v = s := rfl
@[simp] theorem storeReg_rsvd (s : State) (v : Word) : storeReg s .rsvd v = s := rfl
@[simp] theorem storeReg_keeps_status (s : State) (r : Reg) (v : Word) : (storeReg s r v).status = s.status := by
  cases r <;> simp only [storeReg]
@[simp] theorem storeReg_keeps_sched (s : State) (r : Reg) (v : Word) : (storeReg s r v).sched = s.sched := by
  cases r <;> simp only [storeReg]
@[simp] theorem storeReg_keeps_cmdWord (s : State) (r : Reg) (v : Word) : (storeReg s r v).cmdWord = s.cmdWord := by
  cases r <;> simp only [storeReg]
@[simp] theorem storeReg_keeps_snap (s : State) (r : Reg) (v : Word) : (storeReg s r v).snap = s.snap := by
  cases r <;> simp only [storeReg]
@[simp] theorem storeReg_keeps_resetHeld (s : State) (r : Reg) (v : Word) : (storeReg s r v).resetHeld = s.resetHeld := by
  cases r <;> simp only [storeReg]
@[simp] theorem storeReg_keeps_inbox (s : State) (r : Reg) (v : Word) : (storeReg s r v).inbox = s.inbox := by
  cases r <;> simp only [storeReg]
@[simp] theorem storeReg_keeps_reply (s : State) (r : Reg) (v : Word) : (storeReg s r v).reply = s.reply := by
  cases r <;> simp only [storeReg]
@[simp] theorem storeReg_keeps_draws (s : State) (r : Reg) (v : Word) : (storeReg s r v).draws = s.draws := by
  cases r <;> simp only [storeReg]

@[simp] theorem statusErrorCleared_busy (st : Status) : (statusErrorCleared st).busy = st.busy := rfl
@[simp] theorem statusErrorCleared_err (st : Status) : (statusErrorCleared st).err = false := rfl
@[simp] theorem statusErrorCleared_keyValid (st : Status) : (statusErrorCleared st).keyValid = st.keyValid := rfl
@[simp] theorem statusErrorCleared_ovr (st : Status) : (statusErrorCleared st).ovr = st.ovr := rfl
@[simp] theorem statusErrorCleared_errCode (st : Status) : (statusErrorCleared st).errCode = .none := rfl
@[simp] theorem statusErrorCleared_errInfo (st : Status) : (statusErrorCleared st).errInfo = 0 := rfl

@[simp] theorem statusAtAcceptance_busy (v : Word) (st : Status) : (statusAtAcceptance v st).busy = true := rfl
@[simp] theorem statusAtAcceptance_err (v : Word) (st : Status) : (statusAtAcceptance v st).err = false := rfl
@[simp] theorem statusAtAcceptance_keyValid (v : Word) (st : Status) : (statusAtAcceptance v st).keyValid = if v = 0x00000001#32 then false else st.keyValid := rfl
@[simp] theorem statusAtAcceptance_ovr (v : Word) (st : Status) : (statusAtAcceptance v st).ovr = false := rfl
@[simp] theorem statusAtAcceptance_errCode (v : Word) (st : Status) : (statusAtAcceptance v st).errCode = .none := rfl
@[simp] theorem statusAtAcceptance_errInfo (v : Word) (st : Status) : (statusAtAcceptance v st).errInfo = 0 := rfl

@[simp] theorem statusAfterRaise_busy (e : CmdError) (st : Status) : (statusAfterRaise e st).busy = st.busy := rfl
@[simp] theorem statusAfterRaise_err (e : CmdError) (st : Status) : (statusAfterRaise e st).err = true := rfl
@[simp] theorem statusAfterRaise_keyValid (e : CmdError) (st : Status) : (statusAfterRaise e st).keyValid = st.keyValid := rfl
@[simp] theorem statusAfterRaise_ovr (e : CmdError) (st : Status) : (statusAfterRaise e st).ovr = st.ovr := rfl
@[simp] theorem statusAfterRaise_errCode (e : CmdError) (st : Status) : (statusAfterRaise e st).errCode = errorCode e := rfl
@[simp] theorem statusAfterRaise_errInfo (e : CmdError) (st : Status) : (statusAfterRaise e st).errInfo = errorInfo e := rfl

@[simp] theorem statusIdle_busy (st : Status) : (statusIdle st).busy = false := rfl
@[simp] theorem statusIdle_err (st : Status) : (statusIdle st).err = st.err := rfl
@[simp] theorem statusIdle_keyValid (st : Status) : (statusIdle st).keyValid = st.keyValid := rfl
@[simp] theorem statusIdle_ovr (st : Status) : (statusIdle st).ovr = st.ovr := rfl
@[simp] theorem statusIdle_errCode (st : Status) : (statusIdle st).errCode = st.errCode := rfl
@[simp] theorem statusIdle_errInfo (st : Status) : (statusIdle st).errInfo = st.errInfo := rfl

@[simp] theorem statusKeyBound_busy (st : Status) : (statusKeyBound st).busy = st.busy := rfl
@[simp] theorem statusKeyBound_err (st : Status) : (statusKeyBound st).err = st.err := rfl
@[simp] theorem statusKeyBound_keyValid (st : Status) : (statusKeyBound st).keyValid = true := rfl
@[simp] theorem statusKeyBound_ovr (st : Status) : (statusKeyBound st).ovr = st.ovr := rfl
@[simp] theorem statusKeyBound_errCode (st : Status) : (statusKeyBound st).errCode = st.errCode := rfl
@[simp] theorem statusKeyBound_errInfo (st : Status) : (statusKeyBound st).errInfo = st.errInfo := rfl

@[simp] theorem statusOverrun_busy (st : Status) : (statusOverrun st).busy = st.busy := rfl
@[simp] theorem statusOverrun_err (st : Status) : (statusOverrun st).err = st.err := rfl
@[simp] theorem statusOverrun_keyValid (st : Status) : (statusOverrun st).keyValid = st.keyValid := rfl
@[simp] theorem statusOverrun_ovr (st : Status) : (statusOverrun st).ovr = true := rfl
@[simp] theorem statusOverrun_errCode (st : Status) : (statusOverrun st).errCode = st.errCode := rfl
@[simp] theorem statusOverrun_errInfo (st : Status) : (statusOverrun st).errInfo = st.errInfo := rfl

end Sys2Proof.Machine
end

