-- ==== Sys2Proof/Laws/Ops.lean ====
section
/-!
SUPPORT. For each shared operation, one lemma that says everything it can do; provers cite these instead of unfolding.
-/

namespace Sys2Proof.Machine

/-- Completion: the pseudocode's state, or the raise, with `BUSY` cleared. -/
theorem complete_eq_next {s t : State} {r : Except CmdError State} :
    complete s r = .next t ↔
      (∃ u, r = .ok u ∧ t = finish u) ∨ (∃ e, r = .error e ∧ t = finish (raise e s)) := by
  cases r <;> simp [complete, eq_comm]

/-- Completion always answers a next state. -/
theorem complete_next (s : State) (r : Except CmdError State) : ∃ t, complete s r = .next t := by
  cases r <;> exact ⟨_, rfl⟩

theorem requireKey_of_valid {op : Byte} {s : State} {body : Except CmdError State}
    (h : s.status.keyValid = true) : requireKey op s body = body := by
  simp [requireKey, h]

theorem requireKey_of_unbound {op : Byte} {s : State} {body : Except CmdError State}
    (h : s.status.keyValid = false) : requireKey op s body = .error (.noKey op) := by
  simp [requireKey, h]

/-- What KEYSET can do. -/
theorem execKeyset_cases {s t : State} (h : execKeyset s = .next t) :
    (keyLengthLegal s.snap.keyLen = true ∧
      t = finish { s with sched := bfSchedule (snapKeyBytes s), status := statusKeyBound s.status }) ∨
    (keyLengthLegal s.snap.keyLen = false ∧ t = finish (raise (.invalidKeyLength s.snap.keyLen) s)) := by
  unfold execKeyset at h
  split at h <;> rename_i hl <;> rw [complete_eq_next] at h
  · exact .inl ⟨hl, by simpa [eq_comm] using h⟩
  · exact .inr ⟨by simpa using hl, by simpa [eq_comm] using h⟩

/-- A command that needs a key raises `NO_KEY`, or does what its pseudocode does after the check. -/
theorem completeRequireKey_cases {s t : State} {op : Byte} {body : Except CmdError State}
    (h : complete s (requireKey op s body) = .next t) :
    (s.status.keyValid = false ∧ t = finish (raise (.noKey op) s)) ∨
    (s.status.keyValid = true ∧ complete s body = .next t) := by
  cases hk : s.status.keyValid
  · rw [requireKey_of_unbound hk, complete_eq_next] at h
    exact .inl ⟨rfl, by simpa [eq_comm] using h⟩
  · rw [requireKey_of_valid hk] at h
    exact .inr ⟨rfl, h⟩

/-- What B32DEC can do. -/
theorem execB32dec_cases {s t : State} (h : execB32dec s = .next t) :
    (∃ b, decodeText s.snap.txt s.snap.txtLen = .ok b ∧ t = finish { s with blk := b }) ∨
    (∃ e, decodeText s.snap.txt s.snap.txtLen = .error e ∧ t = finish (raise e s)) := by
  unfold execB32dec at h
  split at h <;> rename_i hd <;> rw [complete_eq_next] at h
  · exact .inl ⟨_, hd, by simpa [eq_comm] using h⟩
  · exact .inr ⟨_, hd, by simpa [eq_comm] using h⟩

/-- What HTOID can do once a key is bound. -/
theorem execHtoid_cases {s t : State} (h : execHtoid s = .next t) :
    (s.status.keyValid = false ∧ t = finish (raise (.noKey 0x42) s)) ∨
    (s.status.keyValid = true ∧ ∃ c, decodeText s.snap.txt s.snap.txtLen = .ok c ∧
      t = finish { s with blk := decryptBlock s.sched c, id := fromBytes (decryptBlock s.sched c) }) ∨
    (s.status.keyValid = true ∧ ∃ e, decodeText s.snap.txt s.snap.txtLen = .error e ∧
      t = finish (raise e s)) := by
  unfold execHtoid at h
  rcases completeRequireKey_cases h with h | ⟨hk, h⟩
  · exact .inl h
  · split at h <;> rename_i hd <;> rw [complete_eq_next] at h
    · exact .inr (.inl ⟨hk, _, hd, by simpa [eq_comm] using h⟩)
    · exact .inr (.inr ⟨hk, _, hd, by simpa [eq_comm] using h⟩)

/-- The errors of Decode, with what each says about the text. -/
theorem decodeText_error {t : Text} {n : Byte} {e : CmdError} (h : decodeText t n = .error e) :
    (n ≠ 13 ∧ e = .decodeLength n) ∨
    (n = 13 ∧ ∃ j, firstInvalid t = some j ∧ e = .decodeChar j) ∨
    (n = 13 ∧ firstInvalid t = none ∧ (bitsOfText t).getLsbD 0 = true ∧ e = .decodeNoncanonical) := by
  unfold decodeText at h
  split at h
  · rename_i hn
    exact .inl ⟨hn, by simpa [eq_comm] using h⟩
  · rename_i hn
    have hn : n = 13 := by simpa using hn
    split at h
    · rename_i j hj
      exact .inr (.inl ⟨hn, j, hj, by simpa [eq_comm] using h⟩)
    · rename_i hj
      split at h
      · rename_i hb
        exact .inr (.inr ⟨hn, hj, hb, by simpa [eq_comm] using h⟩)
      · simp at h

/-- What an accepted text says about itself. -/
theorem decodeText_ok {t : Text} {n : Byte} {b : Block} (h : decodeText t n = .ok b) :
    n = 13 ∧ firstInvalid t = none ∧ (bitsOfText t).getLsbD 0 = false ∧ b = blockOfBits (bitsOfText t) := by
  unfold decodeText at h
  split at h
  · simp at h
  · rename_i hn
    split at h
    · simp at h
    · rename_i hj
      split at h
      · simp at h
      · rename_i hb
        exact ⟨by simpa using hn, hj, by simpa using hb, by simpa [eq_comm] using h⟩

/-- What a host write can do (R52): refused, ignored in reset, dropped while busy, or performed. -/
theorem hostWrite_cases (off : BitVec 7) (width : Nat) (v : Word) (s : State) :
    (accessOk off width = false ∧ hostWrite off width v s = answer none Config.busSignalsErrors s) ∨
    (accessOk off width = true ∧ s.resetHeld = true ∧ hostWrite off width v s = answer none false s) ∨
    (accessOk off width = true ∧ s.resetHeld = false ∧ s.status.busy = true ∧
      hostWrite off width v s = answer none false { s with status := statusOverrun s.status }) ∨
    (accessOk off width = true ∧ s.resetHeld = false ∧ s.status.busy = false ∧
      hostWrite off width v s = answer none false (writeReg (regAt off) v s)) := by
  unfold hostWrite
  cases accessOk off width <;> cases s.resetHeld <;> cases s.status.busy <;> simp

/-- A host read changes only the model's own `reply` and `draws` (R52). -/
theorem hostRead_eq (off : BitVec 7) (width : Nat) (s : State) :
    ∃ d b n, hostRead off width s = { s with reply := some { data := some d, busError := b }, draws := n } := by
  unfold hostRead
  split
  · exact ⟨_, _, s.draws, rfl⟩
  · split
    · exact ⟨_, _, s.draws, rfl⟩
    · split
      · exact ⟨_, _, _, rfl⟩
      · exact ⟨_, _, s.draws, rfl⟩

/-- A read transaction changes only the model's own `reply` and `draws`. -/
theorem serveRead_eq (t : Target) (width : Nat) (s : State) :
    ∃ r n, serveRead t width s = { s with reply := r, draws := n } := by
  unfold serveRead
  split
  · obtain ⟨d, b, n, h⟩ := hostRead_eq _ width s
    exact ⟨_, n, h⟩
  · exact ⟨s.reply, s.draws, rfl⟩

/-- What a write transaction can do. -/
theorem serveWrite_cases (t : Target) (width : Nat) (v : Word) (s : State) :
    (targetOffset t = none ∧ serveWrite t width v s = s) ∨
    (∃ off, targetOffset t = some off ∧ serveWrite t width v s = hostWrite off width v s) := by
  unfold serveWrite
  cases targetOffset t <;> simp

/-- What a step can be: the first event served, or the engine's turn. -/
theorem step_nil {s : State} (h : s.inbox = []) : step s = engineTurn s := by
  simp [step, h]

theorem step_cons {s : State} {e : Event} {rest : List Event} (h : s.inbox = e :: rest) :
    step s = serve e { s with inbox := rest } := by
  simp [step, h]

theorem engineTurn_idle {s : State} (h : s.status.busy = false) : engineTurn s = .next s := by
  simp [engineTurn, h]

theorem engineTurn_busy {s : State} (h : s.status.busy = true) : engineTurn s = stepEngine s := by
  simp [engineTurn, h]

theorem stepEngine_ok {s : State} {i : Instr} (h : fetch s = .ok i) : stepEngine s = exec i s := by
  simp [stepEngine, h]

theorem stepEngine_illegal {s : State} {r : Illegal} (h : fetch s = .error r) :
    stepEngine s = .next (finish (raise (.illegalCmd s.curOp) s)) := by
  simp [stepEngine, h, completeIllegal, complete]

theorem keyLengthLegal_iff (n : Byte) : keyLengthLegal n = true ↔ 1 ≤ n.toNat ∧ n.toNat ≤ 56 := by
  simp [keyLengthLegal]

theorem keyLengthLegal_eq_false (n : Byte) :
    keyLengthLegal n = false ↔ ¬ (1 ≤ n.toNat ∧ n.toNat ≤ 56) := by
  simp [keyLengthLegal]

/-- A command either succeeds, with the error status as acceptance left it, or raises one of the errors R204 gives it. -/
theorem exec_cases {i : Instr} {s t : State} (h : exec i s = .next t) :
    (∃ u, t = finish u ∧ u.status.err = s.status.err ∧ u.status.errCode = s.status.errCode ∧
      u.status.errInfo = s.status.errInfo ∧ u.status.ovr = s.status.ovr ∧
      u.status.keyValid = if i = .keyset then true else s.status.keyValid) ∨
    (∃ e, t = finish (raise e s) ∧
      ((i = .keyset ∧ e = .invalidKeyLength s.snap.keyLen ∧ keyLengthLegal s.snap.keyLen = false) ∨
       (needsKey i = true ∧ s.status.keyValid = false ∧ e = .noKey (opcodeOf i)) ∨
       ((i = .b32dec ∨ (i = .htoid ∧ s.status.keyValid = true)) ∧
         decodeText s.snap.txt s.snap.txtLen = .error e))) := by
  cases i <;> simp only [exec] at h
  case keyset =>
    rcases execKeyset_cases h with ⟨_, rfl⟩ | ⟨hl, rfl⟩
    · exact .inl ⟨_, rfl, rfl, rfl, rfl, rfl, rfl⟩
    · exact .inr ⟨_, rfl, by simp [hl]⟩
  case b32dec =>
    rcases execB32dec_cases h with ⟨_, _, rfl⟩ | ⟨e, hl, rfl⟩
    · exact .inl ⟨_, rfl, rfl, rfl, rfl, rfl, by simp⟩
    · exact .inr ⟨_, rfl, by simp [hl]⟩
  case htoid =>
    rcases execHtoid_cases h with ⟨hk, rfl⟩ | ⟨hk, _, _, rfl⟩ | ⟨hk, e, hl, rfl⟩
    · exact .inr ⟨_, rfl, by simp [hk, needsKey, opcodeOf]⟩
    · exact .inl ⟨_, rfl, rfl, rfl, rfl, rfl, by simp⟩
    · exact .inr ⟨_, rfl, by simp [hl, hk]⟩
  case enc | dec | pubid | hpubid =>
    rcases completeRequireKey_cases h with ⟨hk, rfl⟩ | ⟨hk, h⟩
    · exact .inr ⟨_, rfl, by simp [hk, needsKey, opcodeOf]⟩
    · simp only [complete, Host.Outcome.next.injEq] at h
      subst h
      exact .inl ⟨_, rfl, rfl, rfl, rfl, rfl, by simp⟩
  all_goals
    simp only [complete, execNop, execTobytes, execFrombytes, execB32enc, Host.Outcome.next.injEq] at h
    subst h
    exact .inl ⟨_, rfl, rfl, rfl, rfl, rfl, by simp⟩

/-- What the engine's turn can be: nothing, the command in flight, or an illegal word's error. -/
theorem engineTurn_cases {s t : State} (h : engineTurn s = .next t) :
    (s.status.busy = false ∧ t = s) ∨
    (s.status.busy = true ∧ ∃ i, fetch s = .ok i ∧ exec i s = .next t) ∨
    (s.status.busy = true ∧ (∃ r, fetch s = .error r) ∧ t = finish (raise (.illegalCmd s.curOp) s)) := by
  cases hb : s.status.busy
  · rw [engineTurn_idle hb] at h
    exact .inl ⟨rfl, by simpa [eq_comm] using h⟩
  · rw [engineTurn_busy hb] at h
    cases hf : fetch s with
    | ok i => exact .inr (.inl ⟨rfl, i, rfl, by rwa [stepEngine_ok hf] at h⟩)
    | error r =>
      rw [stepEngine_illegal hf] at h
      exact .inr (.inr ⟨rfl, ⟨r, rfl⟩, by simpa [eq_comm] using h⟩)

/-- What a write transaction does to the core: nothing, an overrun, an acceptance, or a store. -/
theorem serveWrite_effect (t : Target) (width : Nat) (v : Word) (s : State) :
    (∃ r, serveWrite t width v s = { s with reply := r }) ∨
    (s.resetHeld = false ∧ s.status.busy = true ∧
      (∃ off, targetOffset t = some off ∧ accessOk off width = true) ∧
      ∃ r, serveWrite t width v s = { s with reply := r, status := statusOverrun s.status }) ∨
    (s.resetHeld = false ∧ s.status.busy = false ∧
      ∃ off r, targetOffset t = some off ∧ accessOk off width = true ∧ regAt off = .cmd ∧
        serveWrite t width v s = { accept v s with reply := r }) ∨
    (s.resetHeld = false ∧ s.status.busy = false ∧
      ∃ off r, targetOffset t = some off ∧ accessOk off width = true ∧ regAt off ≠ .cmd ∧
        serveWrite t width v s = { storeReg s (regAt off) v with reply := r }) := by
  rcases serveWrite_cases t width v s with ⟨_, e⟩ | ⟨off, h, e⟩
  · exact .inl ⟨s.reply, e⟩
  · rw [e]
    rcases hostWrite_cases off width v s with ⟨ha, e⟩ | ⟨ha, hr, e⟩ | ⟨ha, hr, hb, e⟩ | ⟨ha, hr, hb, e⟩ <;> rw [e]
    · exact .inl ⟨_, rfl⟩
    · exact .inl ⟨_, rfl⟩
    · exact .inr (.inl ⟨hr, hb, ⟨off, h, ha⟩, _, rfl⟩)
    · by_cases hc : regAt off = .cmd
      · exact .inr (.inr (.inl ⟨hr, hb, off, some ⟨none, false⟩, h, ha, hc, by simp only [writeReg, hc, if_true]; rfl⟩))
      · exact .inr (.inr (.inr ⟨hr, hb, off, some ⟨none, false⟩, h, ha, hc, by simp only [writeReg, if_neg hc]; rfl⟩))

/-- A command neither reads nor writes the model's own fields and `OVR`. -/
theorem exec_hostFields {i : Instr} {s t : State} (r : Option Reply) (n : Nat) (o : Bool) (es : List Event)
    (h : exec i s = .next t) :
    exec i { s with reply := r, draws := n, inbox := es, status := { s.status with ovr := o } } =
      .next { t with reply := r, draws := n, inbox := es, status := { t.status with ovr := o } } := by
  cases i <;> simp only [exec, execNop, execKeyset, execTobytes, execFrombytes, execEnc, execDec, execB32enc,
    execB32dec, execPubid, execHpubid, execHtoid, requireKey, snapKeyBytes] at h ⊢
  all_goals (try split at h)
  all_goals (try split at h)
  all_goals simp_all [complete, finish, raise, statusIdle, statusAfterRaise, statusKeyBound]
  all_goals (subst h; simp)

/-- The engine's completion neither reads nor writes the model's own fields and `OVR`. -/
theorem stepEngine_hostFields {s t : State} (r : Option Reply) (n : Nat) (o : Bool) (es : List Event)
    (h : stepEngine s = .next t) :
    stepEngine { s with reply := r, draws := n, inbox := es, status := { s.status with ovr := o } } =
      .next { t with reply := r, draws := n, inbox := es, status := { t.status with ovr := o } } := by
  have hf : fetch { s with reply := r, draws := n, inbox := es, status := { s.status with ovr := o } } = fetch s := rfl
  unfold stepEngine at h ⊢
  rw [hf]
  split at h <;> rename_i hh
  · exact exec_hostFields _ _ _ _ h
  · simp only [completeIllegal, complete, Host.Outcome.next.injEq] at h ⊢
    subst h
    rfl

end Sys2Proof.Machine
end

