-- ==== Sys2Proof/Laws/PerInstr.lean ====
section
/-!
SUPPORT. Statements for all commands, made per command: the family `DecodeEncode`.
-/

namespace Sys2Proof.Laws

/-- A command is well formed, and its word decodes to it: as a word, as bytes, and as the opcode table numbers it. -/
def DecodeEncode.Statement (i : Instr) : Prop :=
  i.wellFormed = true ∧ decode (encode i) = .ok i ∧ decodeBytes (encodeBytes i) = .ok i ∧
    decodeTableWord 32 (encode i).toNat = some i

theorem DecodeEncode.nop : DecodeEncode.Statement .nop := ⟨rfl, rfl, rfl, rfl⟩
theorem DecodeEncode.keyset : DecodeEncode.Statement .keyset := ⟨rfl, rfl, rfl, rfl⟩
theorem DecodeEncode.tobytes : DecodeEncode.Statement .tobytes := ⟨rfl, rfl, rfl, rfl⟩
theorem DecodeEncode.frombytes : DecodeEncode.Statement .frombytes := ⟨rfl, rfl, rfl, rfl⟩
theorem DecodeEncode.enc : DecodeEncode.Statement .enc := ⟨rfl, rfl, rfl, rfl⟩
theorem DecodeEncode.dec : DecodeEncode.Statement .dec := ⟨rfl, rfl, rfl, rfl⟩
theorem DecodeEncode.b32enc : DecodeEncode.Statement .b32enc := ⟨rfl, rfl, rfl, rfl⟩
theorem DecodeEncode.b32dec : DecodeEncode.Statement .b32dec := ⟨rfl, rfl, rfl, rfl⟩
theorem DecodeEncode.pubid : DecodeEncode.Statement .pubid := ⟨rfl, rfl, rfl, rfl⟩
theorem DecodeEncode.hpubid : DecodeEncode.Statement .hpubid := ⟨rfl, rfl, rfl, rfl⟩
theorem DecodeEncode.htoid : DecodeEncode.Statement .htoid := ⟨rfl, rfl, rfl, rfl⟩

end Sys2Proof.Laws
end

