-- ==== Sys2Proof/Laws/Registers.lean ====
section
/-!
SUPPORT. The words of a buffer, read after a write of one of them; and which register an aligned offset names.
-/

namespace Sys2Proof.Machine

open Sys2Proof.Laws

/-- A word of a buffer after a write of word `k`: the new value in word `k`, the old one elsewhere. -/
theorem wordAt_putWordAt {n : Nat} (b : Vector Byte n) (k k' : Nat) (v : Word) (h : 4 * k + 3 < n)
    (h' : 4 * k' + 3 < n) : wordAt (putWordAt b k v) k' = if k = k' then v else wordAt b k' := by
  simp only [wordAt, putWordAt, byteAt]
  by_cases e : k = k'
  · subst e
    simp [Vector.getElem?_setIfInBounds]
    simp [show 4 * k + 3 < n by omega, show 4 * k + 2 < n by omega, show 4 * k + 1 < n by omega,
      show 4 * k < n by omega, lane]
    apply BitVec.eq_of_getLsbD_eq
    intro i hi
    simp only [getLsbD_append_24_8, getLsbD_append_16_8, getLsbD_append_8_8]
    interval_cases i <;> simp
  · simp only [e, if_false]
    simp [Vector.getElem?_setIfInBounds]
    simp [show 4 * k + 1 ≠ 4 * k' by omega, show 4 * k + 2 ≠ 4 * k' by omega,
      show 4 * k + 3 ≠ 4 * k' by omega, show 4 * k ≠ 4 * k' + 1 by omega, show 4 * k ≠ 4 * k' + 2 by omega,
      show 4 * k ≠ 4 * k' + 3 by omega, e]

/-- The halves of `ID` after a write of one of them. -/
theorem idHalves_append (hi lo : Word) :
    (hi ++ lo : BitVec 64).extractLsb' 0 32 = lo ∧ (hi ++ lo : BitVec 64).extractLsb' 32 32 = hi := by
  constructor <;> apply BitVec.eq_of_getLsbD_eq <;> intro i hi' <;>
    simp only [BitVec.getLsbD_extractLsb', getLsbD_append_32_32] <;> simp [hi']

/-- Of the aligned offsets only 0 names `CMD`. -/
theorem regAt_eq_cmd : ∀ off : BitVec 7, off.toNat % 4 = 0 → (regAt off = .cmd ↔ off = 0) := by
  decide +kernel

end Sys2Proof.Machine
end

