-- ==== Sys2Proof/Machine/HostProgram.lean ====
section
/-!
DEFINITION. The notation of host programs (spec/30_encoding.md R74, R75): the transactions each line stands for. The host's
own branch `BNZ` is host code, not the core's; a `POLL` is written with the number of its reads that still see `BUSY = 1`,
which the place of the engine's turn decides (log entry 12).
-/

namespace Sys2Proof.Machine

/-- The offset of a register (R20); a reserved slot has no name, 0x34 is the first of them. -/
def offsetOf (r : Reg) : BitVec 7 :=
  match r with
  | .cmd => 0x00
  | .status => 0x04
  | .keyLen => 0x08
  | .txtLen => 0x0C
  | .idLo => 0x10
  | .idHi => 0x14
  | .blkLo => 0x18
  | .blkHi => 0x1C
  | .txt k => BitVec.ofNat 7 (0x20 + 4 * k.val)
  | .version => 0x30
  | .key k => BitVec.ofNat 7 (0x40 + 4 * k.val)
  | .rsvd => 0x34

/-- The lines and pseudo-instructions of a host program. -/
inductive HostLine
  /-- `WR <reg>, <imm32>` (R74). -/
  | wr (r : Reg) (v : Word)
  /-- `RD <reg>` (R74). -/
  | rd (r : Reg)
  /-- `CMD <mnemonic>` (R74). -/
  | cmd (i : Instr)
  /-- `POLL`, with as many reads that see `BUSY = 1` before the one that sees 0 (R75). -/
  | poll (busyReads : Nat)
  /-- `RUN <mnemonic>` (R75). -/
  | run (i : Instr) (busyReads : Nat)
  /-- `WR64 ID, v` (R75). -/
  | wr64 (v : IdWord)
  /-- `RD64 ID` (R75). -/
  | rd64
  /-- `WRBLK b0 ... b7` (R75). -/
  | wrblk (b : Block)
  /-- `SETKEY "s"` (R75). -/
  | setkey (s : List Byte)
  /-- `SETTXT "s"` (R75). -/
  | settxt (s : List Byte)
  /-- `CHECK` (R75). -/
  | check
deriving DecidableEq, Repr

/-- `HostWrite(offset(r), v)` as an event. -/
def writeEvent (r : Reg) (v : Word) : Event := .write (.offset (offsetOf r)) 4 v

/-- `HostRead(offset(r))` as an event. -/
def readEvent (r : Reg) : Event := .read (.offset (offsetOf r)) 4

/-- Word `k` of a string of bytes, the bytes past its end as 0 (R75). -/
def stringWord (s : List Byte) (k : Nat) : Word :=
  wordOfLanes (s.getD (4 * k) 0) (s.getD (4 * k + 1) 0) (s.getD (4 * k + 2) 0) (s.getD (4 * k + 3) 0)

/-- How many words a string of bytes takes: `ceil(n/4)` (R75). -/
def stringWords (s : List Byte) : Nat := (s.length + 3) / 4

/-- The reads of a `POLL`, with the engine's turn where `BUSY` falls (R75, R60). -/
def pollEvents (busyReads : Nat) : List Event :=
  List.replicate busyReads (readEvent .status) ++ [.engine, readEvent .status]

/-- The events of a line, in order (R74, R75). -/
def HostLine.events (line : HostLine) : List Event :=
  match line with
  | .wr r v => [writeEvent r v]
  | .rd r => [readEvent r]
  | .cmd i => [writeEvent .cmd (encode i)]
  | .poll n => pollEvents n
  | .run i n => writeEvent .cmd (encode i) :: pollEvents n
  | .wr64 v => [writeEvent .idLo (v.extractLsb' 0 32), writeEvent .idHi (v.extractLsb' 32 32)]
  | .rd64 => [readEvent .idLo, readEvent .idHi]
  | .wrblk b => [writeEvent .blkLo (wordAt b 0), writeEvent .blkHi (wordAt b 1)]
  | .setkey s =>
    (((List.finRange 14).take (stringWords s)).map fun k => writeEvent (.key k) (stringWord s k.val))
      ++ [writeEvent .keyLen (BitVec.ofNat 32 s.length)]
  | .settxt s =>
    (((List.finRange 4).take (stringWords s)).map fun k => writeEvent (.txt k) (stringWord s k.val))
      ++ [writeEvent .txtLen (BitVec.ofNat 32 s.length)]
  | .check => [readEvent .status]

/-- The events of a host program, as `inbox` holds them. -/
def programEvents (lines : List HostLine) : List Event := lines.flatMap HostLine.events

end Sys2Proof.Machine
end

