-- ==== Sys2Proof/Tests/Slice0.lean ====
section
/-!
SUPPORT. Small tests, their expected values from spec/95_test_vectors.md (V<n>) or from hand calculation with its rules, and one
witness for each statement that has hypotheses: a concrete state and operands that meet them together.
-/

namespace Sys2Proof.Tests

open Sys2Proof Sys2Proof.Machine

/-! ## Well-formed words (R70, R72) -/

theorem test_wellFormed_refuses_reserved_bits : (CommandWord.mk 0x00 1).wellFormed = false := by decide
theorem test_wellFormed_refuses_unassigned_opcode : (CommandWord.mk 0x02 0).wellFormed = false := by decide
theorem test_wellFormed_accepts_HTOID : (CommandWord.mk 0x42 0).wellFormed = true := by decide

/-! ## Decoding, from words written out bit by bit as R70 and R71 give them: `RSVD` [31:8], `OPCODE` [7:0] -/

theorem test_decode_NOP : decode 0b00000000000000000000000000000000#32 = .ok .nop := by decide
theorem test_decode_KEYSET : decode 0b00000000000000000000000000000001#32 = .ok .keyset := by decide
theorem test_decode_TOBYTES : decode 0b00000000000000000000000000010000#32 = .ok .tobytes := by decide
theorem test_decode_FROMBYTES : decode 0b00000000000000000000000000010001#32 = .ok .frombytes := by decide
theorem test_decode_ENC : decode 0b00000000000000000000000000100000#32 = .ok .enc := by decide
theorem test_decode_DEC : decode 0b00000000000000000000000000100001#32 = .ok .dec := by decide
theorem test_decode_B32ENC : decode 0b00000000000000000000000000110000#32 = .ok .b32enc := by decide
theorem test_decode_B32DEC : decode 0b00000000000000000000000000110001#32 = .ok .b32dec := by decide
theorem test_decode_PUBID : decode 0b00000000000000000000000001000000#32 = .ok .pubid := by decide
theorem test_decode_HPUBID : decode 0b00000000000000000000000001000001#32 = .ok .hpubid := by decide
theorem test_decode_HTOID : decode 0b00000000000000000000000001000010#32 = .ok .htoid := by decide
theorem test_decodeBytes_lowest_address_first : decodeBytes [0x42, 0, 0, 0] = .ok .htoid := by decide
theorem test_decodeBytes_refuses_highest_address_first : decodeBytes [0, 0, 0, 0x42] = .error .reservedBits := by decide
theorem test_decodeBytes_refuses_three_bytes : decodeBytes [0x42, 0, 0] = .error .notOneWord := by decide

/-- V50: the illegal words. -/
theorem test_decode_illegal :
    decode 0x00000002 = .error (.unassignedOpcode 0x02) ∧ decode 0x000000ff = .error (.unassignedOpcode 0xff) ∧
    decode 0x00000043 = .error (.unassignedOpcode 0x43) ∧ decode 0x00000100 = .error .reservedBits ∧
    decode 0x80000040 = .error .reservedBits ∧ decode 0x00000101 = .error .reservedBits := by decide

/-- The host's two probes, on the last row of the table. -/
theorem test_withFetchWord_runs_HTOID :
    decodeTableWord 32 0x42 = some .htoid ∧ step (State.reset.withFetchWord 32 0x42) = runCommand .htoid State.reset :=
  ⟨rfl, rfl⟩

/-! ## States -/

/-- A field of the state a step answers. -/
def after {α : Type} (o : Host.Outcome State Fault Refusal) (f : State → α) : Option α :=
  match o with
  | .next t => some (f t)
  | .fault _ => none
  | .refused _ => none

/-- `STATUS` after. -/
def statusAfter (o : Host.Outcome State Fault Refusal) : Option Word := after o fun t => statusWord t.status

/-- A text buffer that starts with these characters. -/
def textOf (cs : String) : Text :=
  Vector.ofFn fun j : Fin 16 => ((cs.toList.map fun c => BitVec.ofNat 8 c.toNat).getD j.val 0)

/-- After reset, with a text. -/
def withText (cs : String) (n : Byte) : State := { State.reset with txt := textOf cs, txtLen := n }

/-- After reset, with a key length. -/
def withKeyLen (n : Byte) : State := { State.reset with keyLen := n }

/-- `KEY_VALID = 1`, with a schedule of zeros. Under it F is 0 and every round only swaps the halves; sixteen swaps and the
last one undone leave the halves exchanged (R104, R110), so Encrypt and Decrypt exchange the halves of the block. -/
def bound (s : State) : State := { s with status := { s.status with keyValid := true } }

/-- A command in flight. -/
def busyWith (i : Instr) (s : State) : State := accept (encode i) s

/-- K0 of V2. -/
def k0 : List Byte :=
  [0x6c, 0x33, 0x58, 0x44, 0x30, 0x71, 0x77, 0x4c, 0x4c, 0x35, 0x6e, 0x44, 0x5a, 0x51, 0x77, 0x34]

/-! ## Meanings -/

/-- R190's example: `STATUS = 0x00390102` before, 0 after. -/
theorem test_nop_clears_error :
    statusAfter (runCommands [.keyset, .nop] (withKeyLen 57)) = some 0x00000000 := by decide

/-- V24: `KEYLEN = 57`. -/
theorem test_keyset_57 : statusAfter (runCommand .keyset (withKeyLen 57)) = some 0x00390102 := by decide

/-- V24: n = 56; and `STATUS` in flight. -/
theorem test_keyset_56 :
    statusAfter (runCommand .keyset (withKeyLen 56)) = some 0x00000004 ∧
    statusWord (busyWith .keyset (bound State.reset)).status = 0x00000001 := by decide

/-- V10. -/
theorem test_tobytes :
    after (runCommand .tobytes { State.reset with id := 0x0123456789abcdef }) (·.blk) =
      some #v[0xef, 0xcd, 0xab, 0x89, 0x67, 0x45, 0x23, 0x01] := by decide

/-- V10. -/
theorem test_frombytes :
    after (runCommand .frombytes { State.reset with blk := #v[0x01, 0x23, 0x45, 0x67, 0x89, 0xab, 0xcd, 0xef] }) (·.id) =
      some 0xefcdab8967452301 := by decide

/-- By hand, under the schedule of zeros; and V24's `NO_KEY`. -/
theorem test_enc :
    after (runCommand .enc (bound { State.reset with blk := #v[0, 1, 2, 3, 4, 5, 6, 7] })) (·.blk) =
      some #v[4, 5, 6, 7, 0, 1, 2, 3] ∧
    statusAfter (runCommand .enc State.reset) = some 0x00200202 := by decide +kernel

/-- By hand, under the schedule of zeros. -/
theorem test_dec :
    after (runCommand .dec (bound { State.reset with blk := #v[0, 1, 2, 3, 4, 5, 6, 7] })) (·.blk) =
      some #v[4, 5, 6, 7, 0, 1, 2, 3] := by decide +kernel

/-- V2: the first two words of P after the key is mixed in. -/
theorem test_mixKey_V2 :
    (mixKey k0 pInit)[0] = 0x480c32cc ∧ (mixKey k0 pInit)[1] = 0xb5d27f9f := by decide +kernel

/-- V2: words of the final schedule, from the P phase and, over the chain that carries on, from the S phase. -/
theorem test_bfSchedule_V2 :
    (bfSchedule k0).p[1] = 0xd0340377 ∧ (bfSchedule k0).s[0][0] = 0x87b3a009 := by decide +kernel

/-- V30. -/
theorem test_b32enc :
    after (runCommand .b32enc { State.reset with blk := #v[0x01, 0x23, 0x45, 0x67, 0x89, 0xab, 0xcd, 0xef] })
      (fun t => (t.txt, t.txtLen)) = some (textOf "04hmasw9nf6yy", 13) := by decide +kernel

/-- V30: the pad bit. -/
theorem test_b32enc_ones :
    after (runCommand .b32enc { State.reset with blk := Vector.replicate 8 0xff }) (·.txt) =
      some (textOf "zzzzzzzzzzzzy") := by decide +kernel

/-- V31: a text that decodes, with `TXT[13..15]` ignored. -/
theorem test_b32dec :
    after (runCommand .b32dec (withText "hgb95qpcy4y50===" 13)) (fun t => (t.blk, statusWord t.status)) =
      some (#v[0x8c, 0x16, 0x92, 0xde, 0xcc, 0xf1, 0x3c, 0x50], 0) := by decide +kernel

/-- V31: the errors. -/
theorem test_b32dec_errors :
    statusAfter (runCommand .b32dec (withText "hgb95qpcy4y5" 12)) = some 0x000c0402 ∧
    statusAfter (runCommand .b32dec (withText "hgb95qpcy4yi0" 13)) = some 0x000b0502 ∧
    statusAfter (runCommand .b32dec (withText "HGB95QPCY4Y50" 13)) = some 0x00000502 ∧
    statusAfter (runCommand .b32dec (withText "hgb95qpcy4y51" 13)) = some 0x000c0602 := by decide +kernel

/-- By hand, under the schedule of zeros: the little-endian bytes with their halves exchanged; and V42's `NO_KEY`. -/
theorem test_pubid :
    after (runCommand .pubid (bound { State.reset with id := 0x0123456789abcdef })) (·.id) = some 0x89abcdef01234567 ∧
    statusAfter (runCommand .pubid State.reset) = some 0x00400202 := by decide +kernel

/-- By hand, under the schedule of zeros, and V30's last row: the block is `8c 16 92 de cc f1 3c 50`. -/
theorem test_hpubid :
    after (runCommand .hpubid (bound { State.reset with id := 0xde92168c503cf1cc })) (·.txt) =
      some (textOf "hgb95qpcy4y50") := by decide +kernel

/-- By hand, under the schedule of zeros: the inverse of the test above. -/
theorem test_htoid :
    after (runCommand .htoid (bound (withText "hgb95qpcy4y50" 13))) (·.id) = some 0xde92168c503cf1cc := by decide +kernel

/-- V42: `NO_KEY` outranks a bad text; and a noncanonical text with a key bound. -/
theorem test_htoid_errors :
    statusAfter (runCommand .htoid (withText "i" 0)) = some 0x00420202 ∧
    statusAfter (runCommand .htoid (bound (withText "hgb95qpcy4y51" 13))) = some 0x000c0606 := by decide +kernel

/-- V50: illegal words run nothing, and `KEY_VALID` stays. -/
theorem test_illegal_words :
    statusAfter (runSteps 2 { State.reset with inbox := [cmdWrite 0x00000002, .engine] }) = some 0x00020302 ∧
    statusAfter (runSteps 2 { bound State.reset with inbox := [cmdWrite 0x80000040, .engine] }) = some 0x00400306 ∧
    statusAfter (runSteps 2 { bound State.reset with inbox := [cmdWrite 0x00000101, .engine] }) = some 0x00010306 := by
  decide

/-- V51: a write while busy is dropped, and `OVR` is 1 after completion. -/
theorem test_write_while_busy :
    after (runSteps 2 { busyWith .nop State.reset with inbox := [.write (.offset 0x10) 4 5, .engine] })
      (fun t => (t.id, statusWord t.status)) = some (0, 0x00000008) := by decide

/-- R33, R52: `VERSION` is read, and a write to it is ignored. -/
theorem test_version :
    after (runSteps 2 { State.reset with inbox := [.write (.offset 0x30) 4 5, .read (.offset 0x30) 4] }) (·.reply) =
      some (some ⟨some 0x49444801, false⟩) := by decide

/-- R20: each register's offset names it. -/
theorem test_offsets :
    (∀ k : Fin 4, regAt (offsetOf (.txt k)) = .txt k) ∧ (∀ k : Fin 14, regAt (offsetOf (.key k)) = .key k) ∧
    ∀ r ∈ [Reg.cmd, .status, .keyLen, .txtLen, .idLo, .idHi, .blkLo, .blkHi, .version, .rsvd], regAt (offsetOf r) = r := by
  decide

/-- V2: the `KEY0..KEY3` words of K0, and the transactions of R75's `SETKEY`. -/
theorem test_setkey_V2 :
    (HostLine.setkey k0).events =
      [.write (.offset 0x40) 4 0x4458336c, .write (.offset 0x44) 4 0x4c777130, .write (.offset 0x48) 4 0x446e354c,
       .write (.offset 0x4c) 4 0x3477515a, .write (.offset 0x08) 4 16] := by decide

/-- V63: the first two lines of P4, from reset; `ENC` ends with `NO_KEY`. -/
theorem test_run_ENC_from_reset :
    after (runSteps 4 { State.reset with inbox := programEvents [.run .enc 1] }) (·.reply) =
      some (some ⟨some 0x00200202, false⟩) := by decide

/-! ## Witnesses: each statement's hypotheses can be met -/

theorem witness_StepRunsDecodedCommand :
    (busyWith .htoid State.reset).status.busy = true ∧ decode (busyWith .htoid State.reset).cmdWord = .ok .htoid ∧
    (busyWith .htoid State.reset).inbox = [] ∧
    (busyWith .nop { State.reset with inbox := [.engine, .resetAssert] }).status.busy = true ∧
    decode (busyWith .nop { State.reset with inbox := [.engine, .resetAssert] }).cmdWord = .ok .nop ∧
    (busyWith .nop { State.reset with inbox := [.engine, .resetAssert] }).inbox = .engine :: [.resetAssert] := by decide

/-- A state whose first event is a write. -/
def writing (s : State) (off : BitVec 7) (width : Nat) (v : Word) : State :=
  { s with inbox := [.write (.offset off) width v] }

/-- The refusal at an offset and at a width; the drop; the acceptance. -/
theorem witness_CommandAcceptance :
    ((writing State.reset 2 4 1).inbox = [.write (.offset 2) 4 1] ∧ ¬ ((2#7).toNat % 4 = 0 ∧ 4 = 4)) ∧
    ((writing State.reset 0 2 1).inbox = [.write (.offset 0) 2 1] ∧ ¬ ((0#7).toNat % 4 = 0 ∧ 2 = 4)) ∧
    ((writing (busyWith .nop State.reset) 0 4 1).inbox = [.write (.offset 0) 4 1] ∧
      (writing (busyWith .nop State.reset) 0 4 1).resetHeld = false ∧
      (writing (busyWith .nop State.reset) 0 4 1).status.busy = true) ∧
    ((writing State.reset 0 4 1).inbox = [.write (.offset 0) 4 1] ∧
      (writing State.reset 0 4 1).resetHeld = false ∧ (writing State.reset 0 4 1).status.busy = false) := by decide

theorem witness_IllegalWordCompletes :
    (0x00000100#32).extractLsb' 8 24 ≠ 0#24 ∧ (0x00000002#32).extractLsb' 0 8 ∉ assignedOpcodes ∧
    (0x000000ff#32).extractLsb' 0 8 ∉ assignedOpcodes ∧
    State.reset.resetHeld = false ∧ State.reset.status.busy = false := by decide

theorem witness_BusyTransactionsDoNotDisturb :
    (busyWith .tobytes State.reset).status.busy = true ∧ (busyWith .tobytes State.reset).resetHeld = false ∧
    ∀ e ∈ [Event.write (.offset 0x10) 4 7, .read (.offset 0x04) 4, cmdWrite 1], isTransaction e = true := by decide

theorem witness_BusyEnds : (busyWith .keyset State.reset).status.busy = true := by decide

/-- An illegal word, a failed KEYSET, a command without a key. -/
theorem witness_ErrorsArePrecise :
    (∃ t, stepEngine (accept 0x00000100 State.reset) = .next t ∧ t.status.err = true) ∧
    (∃ t, stepEngine (accept 0x00000001 (withKeyLen 0)) = .next t ∧ t.status.err = true) ∧
    (∃ t, stepEngine (accept 0x00000020 State.reset) = .next t ∧ t.status.err = true) :=
  ⟨⟨_, rfl, rfl⟩, ⟨_, rfl, rfl⟩, ⟨_, rfl, rfl⟩⟩

/-- The lengths where the clauses meet: 0, 1, 56, 57. -/
theorem witness_KeyLengthLegality :
    (∃ t, runCommand .keyset (withKeyLen 0) = .next t ∧ t.status.errCode = .invalidKeyLength) ∧
    (∃ t, runCommand .keyset (withKeyLen 1) = .next t ∧ t.status.errCode = .none) ∧
    (∃ t, runCommand .keyset (withKeyLen 56) = .next t ∧ t.status.errCode = .none) ∧
    (∃ t, runCommand .keyset (withKeyLen 57) = .next t ∧ t.status.errCode = .invalidKeyLength) ∧
    (∃ t, runCommand .enc (withKeyLen 57) = .next t ∧ t.status.errCode = .noKey) :=
  ⟨⟨_, rfl, rfl⟩, ⟨_, rfl, rfl⟩, ⟨_, rfl, rfl⟩, ⟨_, rfl, rfl⟩, ⟨_, rfl, rfl⟩⟩

theorem witness_FailedKeysetUnbinds :
    (∃ t, runCommand .keyset (withKeyLen 56) = .next t ∧ t.status.err = false) ∧
    (∃ t, runCommand .keyset (withKeyLen 57) = .next t ∧ t.status.err = true) ∧ needsKey .htoid = true ∧
    ¬ (1 ≤ (withKeyLen 0).keyLen.toNat ∧ (withKeyLen 0).keyLen.toNat ≤ 56) ∧
    ¬ (1 ≤ (withKeyLen 57).keyLen.toNat ∧ (withKeyLen 57).keyLen.toNat ≤ 56) :=
  ⟨⟨_, rfl, rfl⟩, ⟨_, rfl, rfl⟩, by decide, by decide, by decide⟩

theorem witness_NoKeyRaised :
    State.reset.status.keyValid = false ∧ needsKey .enc = true ∧
    (∃ t, runCommand .enc State.reset = .next t ∧ t.status.err = true) ∧
    (∃ t, runCommand .b32enc State.reset = .next t) ∧
    (∃ t, runCommand .keyset (withKeyLen 0) = .next t ∧ t.status.err = true) ∧
    (∃ t, runCommand .keyset (withKeyLen 1) = .next t ∧ t.status.err = false) :=
  ⟨rfl, rfl, ⟨_, rfl, rfl⟩, ⟨_, rfl⟩, ⟨_, rfl, rfl⟩, ⟨_, rfl, rfl⟩⟩

/-- The length, a bad character at the first and at the last index, and the pad bit; for B32DEC and for HTOID. -/
theorem witness_DecodeErrorsRaised :
    (busyWith .b32dec (withText "hgb95qpcy4y5" 12)).snap.txtLen ≠ 13 ∧
    ((busyWith .b32dec (withText "HGB95QPCY4Y50" 13)).snap.txtLen = 13 ∧
      symbolIndex (textChar (busyWith .b32dec (withText "HGB95QPCY4Y50" 13)).snap.txt 0) = none) ∧
    ((busyWith .htoid (bound (withText "hgb95qpcy4y5Z" 13))).status.keyValid = true ∧
      (busyWith .htoid (bound (withText "hgb95qpcy4y5Z" 13))).snap.txtLen = 13 ∧
      symbolIndex (textChar (busyWith .htoid (bound (withText "hgb95qpcy4y5Z" 13))).snap.txt 12) = none ∧
      ∀ k : Fin 13, k < 12 →
        symbolIndex (textChar (busyWith .htoid (bound (withText "hgb95qpcy4y5Z" 13))).snap.txt k) ≠ none) ∧
    ((busyWith .b32dec (withText "hgb95qpcy4y51" 13)).snap.txtLen = 13 ∧
      (∀ k : Fin 13, symbolIndex (textChar (busyWith .b32dec (withText "hgb95qpcy4y51" 13)).snap.txt k) ≠ none) ∧
      symbolIndex (textChar (busyWith .b32dec (withText "hgb95qpcy4y51" 13)).snap.txt 12) = some 1 ∧
      (1#5).getLsbD 0 = true) := by decide +kernel

theorem witness_ErrorCausesByCommand :
    (∃ t, runCommand .keyset (withKeyLen 57) = .next t ∧ t.status.err = true) ∧
    (∃ t, runCommand .dec State.reset = .next t ∧ t.status.err = true) ∧
    (∃ t, runCommand .b32dec (withText "" 0) = .next t ∧ t.status.err = true) :=
  ⟨⟨_, rfl, rfl⟩, ⟨_, rfl, rfl⟩, ⟨_, rfl, rfl⟩⟩

/-- The least and the greatest legal length. -/
theorem witness_KeysetResult :
    (1 ≤ (busyWith .keyset (withKeyLen 1)).snap.keyLen.toNat ∧
      (busyWith .keyset (withKeyLen 1)).snap.keyLen.toNat ≤ 56) ∧
    (1 ≤ (busyWith .keyset (withKeyLen 56)).snap.keyLen.toNat ∧
      (busyWith .keyset (withKeyLen 56)).snap.keyLen.toNat ≤ 56) := by decide

theorem witness_EncResult : (busyWith .enc (bound State.reset)).status.keyValid = true := by decide
theorem witness_DecResult : (busyWith .dec (bound State.reset)).status.keyValid = true := by decide
theorem witness_PubidResult : (busyWith .pubid (bound State.reset)).status.keyValid = true := by decide
theorem witness_HpubidResult : (busyWith .hpubid (bound State.reset)).status.keyValid = true := by decide

/-- The indices of "hgb95qpcy4y50" by R150's table. -/
def groups : Vector (BitVec 5) 13 := #v[17, 16, 11, 9, 5, 23, 22, 12, 30, 4, 30, 5, 0]

theorem witness_B32decResult :
    (busyWith .b32dec (withText "hgb95qpcy4y50" 13)).snap.txtLen = 13 ∧
    (∀ j : Fin 13, symbolIndex (textChar (busyWith .b32dec (withText "hgb95qpcy4y50" 13)).snap.txt j) =
      some groups[j]) ∧ groups[12].getLsbD 0 = false := by decide +kernel

theorem witness_HtoidResult :
    (busyWith .htoid (bound (withText "hgb95qpcy4y50" 13))).status.keyValid = true ∧
    (busyWith .htoid (bound (withText "hgb95qpcy4y50" 13))).snap.txtLen = 13 ∧
    (∀ j : Fin 13, symbolIndex (textChar (busyWith .htoid (bound (withText "hgb95qpcy4y50" 13))).snap.txt j) =
      some groups[j]) ∧ groups[12].getLsbD 0 = false := by decide +kernel

theorem witness_ScheduleConstruction : [0x61#8] ≠ [] := by decide
theorem witness_RepeatedKeySameSchedule : k0 ≠ [] := by decide

theorem witness_SymbolLookup :
    0x69#8 ∈ [0x69#8, 0x6c#8, 0x6f#8, 0x75#8, 0x3d#8, 0x00#8] ∧
    (0x41 ≤ (0x41#8).toNat ∧ (0x41#8).toNat ≤ 0x5a) ∧ (0x41 ≤ (0x5a#8).toNat ∧ (0x5a#8).toNat ≤ 0x5a) ∧
    0x7b#8 ∉ alphabet.toList := by decide

theorem witness_CodecIsExact :
    decodeText (textOf "hgb95qpcy4y50") 13 = .ok #v[0x8c, 0x16, 0x92, 0xde, 0xcc, 0xf1, 0x3c, 0x50] := by decide +kernel

theorem witness_PublicIdCommandsInvert : (bound State.reset).status.keyValid = true := by decide

theorem witness_HumanIdRoundTrip :
    (bound State.reset).status.keyValid = true ∧ (bound State.reset).status.busy = false ∧
    (bound State.reset).resetHeld = false ∧
    (∀ e ∈ [Event.read (.offset 0x04) 4], isTransaction e = true) ∧
    (∀ e ∈ [Event.write (.offset 0x10) 4 9], isTransaction e = true) := by decide

theorem witness_HumanTextShape :
    (bound State.reset).status.keyValid = true ∧ (∃ t, runCommand .hpubid (bound State.reset) = .next t) ∧
    ∃ u, runCommands [.pubid, .tobytes, .b32enc] (bound State.reset) = .next u :=
  ⟨rfl, ⟨_, rfl⟩, ⟨_, rfl⟩⟩

/-- States that differ in registers the command does not read. -/
theorem witness_ResultsDependOnOperandsOnly :
    operandsAgree .b32dec (withText "hgb95qpcy4y50" 13) { withText "hgb95qpcy4y50===" 13 with id := 5, keyLen := 7 } ∧
    (∃ t, runCommand .b32dec (withText "hgb95qpcy4y50" 13) = .next t) ∧
    ∃ t', runCommand .b32dec { withText "hgb95qpcy4y50===" 13 with id := 5, keyLen := 7 } = .next t' := by
  refine ⟨⟨rfl, rfl, by decide +kernel⟩, ?_, ?_⟩ <;> (unfold runCommand exec execB32dec; exact complete_next _ _)

theorem witness_IdleReads : State.reset.resetHeld = false ∧ State.reset.status.busy = false := by decide
theorem witness_IdleWrites : (bound State.reset).resetHeld = false ∧ (bound State.reset).status.busy = false := by decide

/-- The same register, another register, and the last offset. -/
theorem witness_WriteThenRead :
    State.reset.resetHeld = false ∧ State.reset.status.busy = false ∧
    (0x10#7).toNat % 4 = 0 ∧ (0x7C#7).toNat % 4 = 0 ∧ 0x10#7 ≠ 0 ∧ 0x7C#7 ≠ 0 ∧
    (∃ t, runSteps 2 { State.reset with inbox := [.write (.offset 0x10) 4 5, .read (.offset 0x10) 4] } = .next t) ∧
    (∃ t, runSteps 2 { State.reset with inbox := [.write (.offset 0x10) 4 5, .read (.offset 0x7C) 4] } = .next t) ∧
    ∃ t, runSteps 2 { State.reset with inbox := [.write (.offset 0x7C) 4 5, .read (.offset 0x10) 4] } = .next t :=
  ⟨rfl, rfl, rfl, rfl, by decide, by decide, ⟨_, rfl⟩, ⟨_, rfl⟩, ⟨_, rfl⟩⟩

theorem witness_MisalignedAccessRefused :
    ¬ ((0x7F#7).toNat % 4 = 0 ∧ 4 = 4) ∧ ¬ ((0x10#7).toNat % 4 = 0 ∧ 8 = 4) ∧ ¬ ((0#7).toNat % 4 = 0 ∧ 1 = 4) := by decide

/-- A drop at the last offset; and `OVR` falling at an acceptance and at reset. -/
theorem witness_WritesWhileBusyDropped :
    ((writing (busyWith .nop State.reset) 0x7C 4 1).inbox = [.write (.offset 0x7C) 4 1] ∧ (0x7C#7).toNat % 4 = 0 ∧
      (writing (busyWith .nop State.reset) 0x7C 4 1).resetHeld = false ∧
      (writing (busyWith .nop State.reset) 0x7C 4 1).status.busy = true) ∧
    (∃ t, step (writing { State.reset with status := statusOverrun .reset } 0 4 0) = .next t ∧
      t.status.ovr = false) ∧
    ∃ t, step { State.reset with status := statusOverrun .reset, inbox := [.resetAssert] } = .next t ∧
      t.status.ovr = false :=
  ⟨by decide, ⟨_, rfl, rfl⟩, ⟨_, rfl, rfl⟩⟩

theorem witness_ReadsWhileBusy :
    (busyWith .pubid State.reset).resetHeld = false ∧ (busyWith .pubid State.reset).status.busy = true ∧
    (0x2C#7).toNat % 4 = 0 ∧ unspecifiedWhileBusy (regAt 0x2C) = true ∧ unspecifiedWhileBusy (regAt 0x30) = false := by
  decide

/-- A read while idle, and one that returns a free value. -/
theorem witness_ReadsChangeNothing :
    (∃ t, step { State.reset with inbox := [.read (.offset 0x30) 4] } = .next t) ∧
    ∃ t, step { busyWith .pubid State.reset with inbox := [.read (.offset 0x10) 4] } = .next t :=
  ⟨⟨_, rfl⟩, ⟨_, rfl⟩⟩

theorem witness_WindowAddresses :
    Config.base + 0x7C = Config.base + (0x7C#7).toNat ∧ Config.base + 0x80 ≤ Config.base + 0x80 := ⟨rfl, le_refl _⟩

theorem witness_KeyMaterialUnreadable :
    (∃ t, step { State.reset with inbox := [.read (.offset 0x40) 4] } = .next t) ∧
    ∃ t', step { { State.reset with inbox := [.read (.offset 0x40) 4] } with
      key := Vector.replicate 56 1, sched := .reset, snap := { Snapshot.reset with key := Vector.replicate 56 2 } } =
        .next t' :=
  ⟨⟨_, rfl⟩, ⟨_, rfl⟩⟩

theorem witness_ResetBehaviour :
    ({ busyWith .pubid State.reset with inbox := [.resetAssert] } : State).inbox = [.resetAssert] ∧
    ({ State.reset with resetHeld := true } : State).resetHeld = true ∧ (0x7C#7).toNat % 4 = 0 ∧
    ({ State.reset with resetHeld := true, inbox := [.resetRelease] } : State).inbox = [.resetRelease] := by decide

/-- A bound key, and a command about to be accepted. -/
theorem witness_StepKeepsInvariant :
    CoreInv { bound State.reset with sched := bfSchedule [0x61], inbox := [cmdWrite 0x40] } ∧
    ∃ t, step { bound State.reset with sched := bfSchedule [0x61], inbox := [cmdWrite 0x40] } = .next t := by
  refine ⟨⟨⟨by decide, by decide, rfl⟩, fun h => ?_, fun _ => ⟨[0x61], by decide, by decide, rfl⟩, fun h => ?_⟩, _, rfl⟩ <;>
    cases h

/-- An acceptance, a completion, a reset. -/
theorem witness_KeyValidChanges :
    (∃ t, step { bound State.reset with inbox := [cmdWrite 1] } = .next t ∧
      t.status.keyValid ≠ (bound State.reset).status.keyValid) ∧
    (∃ t, step (busyWith .keyset (withKeyLen 56)) = .next t ∧
      t.status.keyValid ≠ (busyWith .keyset (withKeyLen 56)).status.keyValid) ∧
    ∃ t, step { bound State.reset with inbox := [.resetAssert] } = .next t ∧
      t.status.keyValid ≠ (bound State.reset).status.keyValid :=
  ⟨⟨_, rfl, by decide⟩, ⟨_, rfl, by decide⟩, ⟨_, rfl, by decide⟩⟩

/-- The schedule of the one-byte key `00` is not the one before it. -/
theorem witness_ScheduleChanges :
    ∃ t, step (busyWith .keyset (withKeyLen 1)) = .next t ∧ t.sched ≠ (busyWith .keyset (withKeyLen 1)).sched :=
  ⟨_, rfl, fun h => absurd (congrArg (fun k : Schedule => k.p[0]) h) (by decide +kernel)⟩

theorem witness_OverrunSetOnlyByDroppedWrite :
    (writing (busyWith .nop State.reset) 0x34 4 1).status.ovr = false ∧
    ∃ t, step (writing (busyWith .nop State.reset) 0x34 4 1) = .next t ∧ t.status.ovr = true :=
  ⟨rfl, _, rfl, rfl⟩

/-- With nothing pending, and with a data write pending. -/
theorem witness_IdleStatusPersists :
    State.reset.status.busy = false ∧ State.reset.inbox = [] ∧ (∃ t, step State.reset = .next t) ∧
    (writing State.reset 0x08 4 1).status.busy = false ∧
    (writing State.reset 0x08 4 1).inbox = [.write (.offset 0x08) 4 1] ∧
    presentsCommand (.write (.offset 0x08) 4 1) = false ∧ ∃ t, step (writing State.reset 0x08 4 1) = .next t :=
  ⟨rfl, rfl, ⟨_, rfl⟩, rfl, rfl, by decide, ⟨_, rfl⟩⟩

theorem witness_KeyCoherence :
    Instr.pubid ≠ .keyset ∧ ∃ t, runCommand .pubid (bound State.reset) = .next t := ⟨by decide, _, rfl⟩

/-- At completion, and at reset. -/
theorem witness_BusyFallsOnlyAtCompletion :
    (busyWith .nop State.reset).status.busy = true ∧
    (∃ t, step (busyWith .nop State.reset) = .next t ∧ t.status.busy = false) ∧
    ∃ t, step { busyWith .nop State.reset with inbox := [.resetAssert] } = .next t ∧ t.status.busy = false :=
  ⟨rfl, ⟨_, rfl, rfl⟩, ⟨_, rfl, rfl⟩⟩

end Sys2Proof.Tests
end

section
/-!
PROOFS, the host's transactions (spec/20_memory.md): an access that is not an aligned 32-bit one is refused (R53), before
reset, `BUSY` and the register it names are looked at.
-/

namespace Sys2Proof.Machine

/-- The model's test is the rule of R53. -/
theorem accessOk_eq_false_iff (off : BitVec 7) (width : Nat) :
    accessOk off width = false ↔ ¬ (off.toNat % 4 = 0 ∧ width = 4) := by
  simp [accessOk]

theorem hostWrite_of_accessOk_eq_false {off : BitVec 7} {width : Nat} (h : accessOk off width = false) (v : Word)
    (s : State) : hostWrite off width v s = answer none Config.busSignalsErrors s :=
  if_pos h

theorem hostRead_of_accessOk_eq_false {off : BitVec 7} {width : Nat} (h : accessOk off width = false) (s : State) :
    hostRead off width s = answer (some 0) Config.busSignalsErrors s :=
  if_pos h

/-- Settles O45: the refusal is the first branch of a write and of a read, so no hypothesis on the state is needed. -/
theorem misalignedAccessRefused : Obligations.MisalignedAccessRefused := by
  intro off width v s hbad
  have hrefused : accessOk off width = false := (accessOk_eq_false_iff off width).mpr hbad
  exact ⟨hostWrite_of_accessOk_eq_false hrefused v s, hostRead_of_accessOk_eq_false hrefused s⟩

end Sys2Proof.Machine
end

section
/-!
PROOFS, KEYSET's key length (spec/40_block_transform.md R101, spec/60_exceptions.md R211): which completions leave
`INVALID_KEY_LENGTH`.
-/

namespace Sys2Proof.Machine

theorem errorCode_ne_invalidKeyLength_of_decodeText_error {x : Text} {n : Byte} {e : CmdError}
    (h : decodeText x n = .error e) : errorCode e ≠ .invalidKeyLength := by
  rcases decodeText_error h with ⟨_, rfl⟩ | ⟨_, _, _, rfl⟩ | ⟨_, _, _, rfl⟩ <;> simp [errorCode]

/-- The other commands' errors are `NO_KEY` and those of Decode, and a success keeps the error code it starts with. -/
theorem exec_errCode_ne_invalidKeyLength {i : Instr} {s t : State} (hi : i ≠ .keyset)
    (hs : s.status.errCode ≠ .invalidKeyLength) (h : exec i s = .next t) :
    t.status.errCode ≠ .invalidKeyLength := by
  rcases exec_cases h with ⟨u, rfl, _, hcode, _⟩ | ⟨e, rfl, ⟨hkeyset, _⟩ | ⟨_, _, rfl⟩ | ⟨_, hdecode⟩⟩
  · simpa [hcode] using hs
  · exact absurd hkeyset hi
  · simp [errorCode]
  · simpa using errorCode_ne_invalidKeyLength_of_decodeText_error hdecode

/-- A whole KEYSET: its length check sees `KEYLEN.LEN` as it was at acceptance (R200), where `KEY_VALID` fell (R102). -/
theorem runCommand_keyset_status {s t : State} (h : runCommand .keyset s = .next t) :
    (keyLengthLegal s.keyLen = true ∧ t.status.errCode = .none) ∨
    (keyLengthLegal s.keyLen = false ∧ t.status.errCode = .invalidKeyLength ∧ t.status.err = true ∧
      t.status.errInfo = s.keyLen ∧ t.status.keyValid = false) := by
  rcases execKeyset_cases h with ⟨hlegal, rfl⟩ | ⟨hillegal, rfl⟩
  · exact .inl ⟨hlegal, rfl⟩
  · exact .inr ⟨hillegal, rfl, rfl, rfl, rfl⟩

/-- Settles O13: KEYSET by its own two outcomes, every other command because it starts with no error. -/
theorem keyLengthLegality : Obligations.KeyLengthLegality := by
  intro i s t h
  by_cases hi : i = .keyset
  · subst hi
    rw [← keyLengthLegal_eq_false]
    rcases runCommand_keyset_status h with ⟨hlegal, hcode⟩ | ⟨hillegal, hcode, hraised⟩
    · simp [hlegal, hcode]
    · exact ⟨by simp [hillegal, hcode], fun _ => hraised⟩
  · have hcode : t.status.errCode ≠ .invalidKeyLength := exec_errCode_ne_invalidKeyLength hi (by simp) h
    simp [hi, hcode]

end Sys2Proof.Machine
end

section
/-!
PROOFS, the alphabet and its lookup (spec/43_text_codec.md): the 32 characters (R150), and `IDX` as the inverse of `ALPH`
on them, INVALID elsewhere (R153).
-/

namespace Sys2Proof.Machine

/-- Settles O33: the two lists of characters have 32 closed entries each. -/
theorem alphabetIsTheSourceString : Obligations.AlphabetIsTheSourceString := by
  unfold Obligations.AlphabetIsTheSourceString
  decide

/-- No code stands twice in the alphabet, so a code has at most one index. -/
theorem alphabet_nodup : alphabet.toList.Nodup := by decide

theorem symbolIndex_eq_none_iff (c : Byte) : symbolIndex c = none ↔ c ∉ alphabet.toList := by
  rw [symbolIndex, Option.map_eq_none_iff, List.findIdx?_eq_none_iff]
  simpa only [beq_eq_false_iff_ne] using List.forall_mem_ne'

/-- The search of R153 stops at the position of the first occurrence, and a code occurs only once. -/
theorem findIdx?_alphabet_eq_some_iff (c : Byte) {i : Nat} (hi : i < 32) :
    alphabet.toList.findIdx? (· == c) = some i ↔ alphabet[i] = c := by
  rw [List.findIdx?_eq_some_iff_getElem]
  constructor
  · rintro ⟨_, hfound, _⟩
    simpa using hfound
  · rintro rfl
    have hlen : i < alphabet.toList.length := by simpa using hi
    refine ⟨hlen, by simp, fun j hj hearlier => ?_⟩
    have hsame : alphabet.toList[j] = alphabet.toList[i] := by simpa using hearlier
    exact hj.ne (alphabet_nodup.getElem_inj_iff.mp hsame)

/-- `IDX` and `ALPH` are inverse: the position found is below 32, so a 5-bit index holds it. -/
theorem symbolIndex_eq_some_iff (c : Byte) (g : BitVec 5) : symbolIndex c = some g ↔ symbol g = c := by
  unfold symbolIndex symbol
  rw [← findIdx?_alphabet_eq_some_iff c g.isLt, Option.map_eq_some_iff]
  constructor
  · rintro ⟨i, hfound, rfl⟩
    obtain ⟨hi, _⟩ := List.findIdx?_eq_some_iff_getElem.mp hfound
    have hi : i < 2 ^ 5 := by simpa using hi
    rwa [BitVec.toNat_ofNat, Nat.mod_eq_of_lt hi]
  · exact fun hfound => ⟨g.toNat, hfound, BitVec.ofNat_toNat 5 g⟩

/-- The letters left out of the alphabet (i, l, o, u), the pad symbol and the zero byte (R153). -/
theorem excluded_not_mem_alphabet :
    ∀ c ∈ [0x69#8, 0x6c#8, 0x6f#8, 0x75#8, 0x3d#8, 0x00#8], c ∉ alphabet.toList := by decide

/-- There is no uppercase letter in the alphabet (R153). -/
theorem not_uppercase_of_mem_alphabet :
    ∀ c ∈ alphabet.toList, ¬ (0x41 ≤ c.toNat ∧ c.toNat ≤ 0x5a) := by decide

/-- Settles O34: the lookup inverts the alphabet, and the codes without an index are those outside it, among them the
excluded and the uppercase ones. -/
theorem symbolLookup : Obligations.SymbolLookup := by
  refine ⟨symbolIndex_eq_some_iff, fun _ => rfl, fun c hc => (symbolIndex_eq_none_iff c).mpr ?_⟩
  rcases hc with hexcluded | huppercase | hnotMem
  · exact excluded_not_mem_alphabet c hexcluded
  · exact fun hmem => not_uppercase_of_mem_alphabet c hmem huppercase
  · exact hnotMem

end Sys2Proof.Machine
end

section
/-!
PROOFS, precise errors (spec/60_exceptions.md R202): a completion that raises writes nothing but `STATUS`.
-/

namespace Sys2Proof.Machine

/-- What a completion that raises leaves (R201, R203). -/
theorem finish_raise (e : CmdError) (s : State) :
    finish (raise e s) = { s with
      status := { s.status with busy := false, err := true, errCode := errorCode e, errInfo := errorInfo e } } := rfl

/-- Every error is an exit through `raise`: a success leaves `ERR` as acceptance cleared it (R200, R203). -/
theorem stepEngine_eq_raise {s t : State} (h : stepEngine s = .next t) (hclear : s.status.err = false)
    (herr : t.status.err = true) : ∃ e, t = finish (raise e s) := by
  cases hf : fetch s with
  | error r =>
    rw [stepEngine_illegal hf, Host.Outcome.next.injEq] at h
    exact ⟨_, h.symm⟩
  | ok i =>
    rw [stepEngine_ok hf] at h
    rcases exec_cases h with ⟨u, rfl, hkept, _⟩ | ⟨e, ht, _⟩
    · simp [hkept, hclear] at herr
    · exact ⟨e, ht⟩

/-- Settles O12: `raise` and the end of completion write `STATUS` alone, and acceptance has set the rest of it. -/
theorem errorsArePrecise : Obligations.ErrorsArePrecise := by
  intro v s t h herr
  obtain ⟨e, rfl⟩ := stepEngine_eq_raise h rfl herr
  simp [finish_raise]

end Sys2Proof.Machine
end

section
/-!
PROOFS, illegal command words (spec/60_exceptions.md R205): neither case of R72 decodes, so the engine raises
`ILLEGAL_CMD`.
-/

namespace Sys2Proof.Machine

theorem instrOfOpcode_eq_none {op : Byte} (h : op ∉ assignedOpcodes) : instrOfOpcode op = none := by
  unfold instrOfOpcode
  split
  case h_12 => rfl
  all_goals exact absurd (by decide) h

/-- Both cases of R72, in the decoder's order. -/
theorem decode_illegal {v : Word} (h : v.extractLsb' 8 24 ≠ 0#24 ∨ v.extractLsb' 0 8 ∉ assignedOpcodes) :
    ∃ r, decode v = .error r := by
  by_cases hrsvd : v.extractLsb' 8 24 = 0#24
  · have hop : instrOfOpcode (v.extractLsb' 0 8) = none := instrOfOpcode_eq_none (h.resolve_left (not_not_intro hrsvd))
    exact ⟨.unassignedOpcode (v.extractLsb' 0 8), by
      simp [decode, CommandWord.ofWord, CommandWord.rsvdClear, hrsvd, hop]⟩
  · exact ⟨.reservedBits, by simp [decode, CommandWord.ofWord, CommandWord.rsvdClear, hrsvd]⟩

theorem runSteps_succ {n : Nat} {s t : State} (h : step s = .next t) : runSteps (n + 1) s = runSteps n t := by
  simp only [runSteps, h]

/-- A word written to `CMD` while idle and out of reset is accepted, whatever it is (R200). -/
theorem serveWrite_cmd_idle {s : State} (v : Word) (hreset : s.resetHeld = false) (hidle : s.status.busy = false) :
    serveWrite (.offset 0) 4 v s = answer none false (accept v s) := by
  simp [serveWrite, targetOffset, hostWrite, accessOk, hreset, hidle, writeReg, regAt]

/-- Settles O7: the first step accepts the word, the second is the engine's turn on a word that does not decode. -/
theorem illegalWordCompletes : Obligations.IllegalWordCompletes := by
  intro s v hillegal hreset hidle
  obtain ⟨r, hdecode⟩ := decode_illegal hillegal
  have hkey : v ≠ 0x00000001#32 := by
    rintro rfl
    revert hillegal
    decide
  have haccept : step { s with inbox := [cmdWrite v, .engine] } =
      .next (answer none false (accept v { s with inbox := [.engine] })) :=
    congrArg Host.Outcome.next (serveWrite_cmd_idle v hreset hidle)
  have hcomplete : step (answer none false (accept v { s with inbox := [.engine] })) =
      .next (finish (raise (.illegalCmd (v.extractLsb' 0 8)) (answer none false (accept v { s with inbox := [] })))) :=
    stepEngine_illegal hdecode
  refine ⟨v, snapshotOf s, some ⟨none, false⟩, ?_⟩
  rw [runSteps_succ haccept, runSteps_succ hcomplete]
  simp [runSteps, finish_raise, errorCode, errorInfo, snapshotOf, hkey]

end Sys2Proof.Machine
end

section
/-!
PROOFS, `NO_KEY` (spec/60_exceptions.md R206): which commands raise it, and that no completion reads the schedule while no
key is bound.
-/

namespace Sys2Proof.Machine

/-- The five commands that need a key check for it before anything else (R207). -/
theorem exec_of_unbound {i : Instr} {s : State} (hneeds : needsKey i = true) (hunbound : s.status.keyValid = false) :
    exec i s = .next (finish (raise (.noKey (opcodeOf i)) s)) := by
  cases i
  case enc | dec | pubid | hpubid | htoid => exact congrArg (complete s) (requireKey_of_unbound hunbound)
  all_goals contradiction

theorem execKeyset_of_legal {s : State} (h : keyLengthLegal s.snap.keyLen = true) :
    execKeyset s = .next (finish { s with sched := bfSchedule (snapKeyBytes s), status := statusKeyBound s.status }) := by
  rw [execKeyset, if_pos h, complete]

theorem execKeyset_of_illegal {s : State} (h : keyLengthLegal s.snap.keyLen = false) :
    execKeyset s = .next (finish (raise (.invalidKeyLength s.snap.keyLen) s)) := by
  simp [execKeyset, h, complete]

/-- The commands beside KEYSET that need no key pass the schedule through unread. -/
theorem exec_sched_of_not_needsKey {i : Instr} {s t : State} (hneeds : needsKey i = false) (hi : i ≠ .keyset)
    (k : Schedule) (h : exec i s = .next t) : exec i { s with sched := k } = .next { t with sched := k } := by
  cases i
  case nop | tobytes | frombytes | b32enc =>
    cases h
    rfl
  case b32dec =>
    rcases execB32dec_cases h with ⟨b, hdecode, rfl⟩ | ⟨e, hdecode, rfl⟩ <;>
      simp [exec, execB32dec, hdecode, complete, finish, raise]
  all_goals contradiction

/-- Without a bound key only KEYSET touches the schedule, and nothing reads it. -/
theorem exec_sched_of_unbound {i : Instr} {s t : State} (hunbound : s.status.keyValid = false) (hi : i ≠ .keyset)
    (k : Schedule) (h : exec i s = .next t) : exec i { s with sched := k } = .next { t with sched := k } := by
  cases hneeds : needsKey i
  · exact exec_sched_of_not_needsKey hneeds hi k h
  · rw [exec_of_unbound hneeds hunbound] at h
    cases h
    exact exec_of_unbound hneeds hunbound

/-- A successful KEYSET replaces the schedule whatever it was, a failed one keeps it (R202). -/
theorem execKeyset_sched {s t : State} (hclear : s.status.err = false) (k : Schedule) (h : execKeyset s = .next t) :
    (t.status.err = false ∧ execKeyset { s with sched := k } = .next t) ∨
    (t.status.err = true ∧ execKeyset { s with sched := k } = .next { t with sched := k }) := by
  rcases execKeyset_cases h with ⟨hlegal, rfl⟩ | ⟨hillegal, rfl⟩
  · exact .inl ⟨hclear, execKeyset_of_legal hlegal⟩
  · exact .inr ⟨rfl, execKeyset_of_illegal hillegal⟩

/-- Acceptance never binds a key (R200, R37). -/
theorem accept_keyValid_of_unbound (v : Word) {s : State} (h : s.status.keyValid = false) :
    (accept v s).status.keyValid = false := by
  simp [h]

/-- Settles O15: the check of R206 comes first, and KEYSET is the one command that tells the two schedules apart. -/
theorem noKeyRaised : Obligations.NoKeyRaised := by
  intro i s hunbound
  have haccepted : (accept (encode i) s).status.keyValid = false := accept_keyValid_of_unbound _ hunbound
  refine ⟨fun hneeds => ?_, fun k t h => ?_⟩
  · rw [runCommand, exec_of_unbound hneeds haccepted]
    simp [finish_raise, errorCode, errorInfo, hunbound]
  · by_cases hi : i = .keyset
    · subst hi
      rcases execKeyset_sched rfl k h with ⟨herr, h'⟩ | ⟨herr, h'⟩ <;> exact ⟨_, h', by simp [herr]⟩
    · exact ⟨_, exec_sched_of_unbound haccepted hi k h, fun _ => rfl, fun hkeyset => absurd hkeyset hi⟩

end Sys2Proof.Machine
end

section
/-!
PROOFS, the decode errors (spec/60_exceptions.md R208 to R210): when Decode (spec/43_text_codec.md R152) ends with each, and
that B32DEC and HTOID raise what Decode ends with.
-/

namespace Sys2Proof.Machine

open Sys2Proof.Laws

theorem firstInvalid_eq_some {x : Text} {j : Fin 13} (hinvalid : symbolIndex (textChar x j) = none)
    (hlowest : ∀ k : Fin 13, k < j → symbolIndex (textChar x k) ≠ none) : firstInvalid x = some j := by
  rw [firstInvalid, List.find?_eq_some_iff_getElem]
  refine ⟨by simp [hinvalid], j.val, by simp, by simp, fun k hk => ?_⟩
  have hvalid : symbolIndex (textChar x ⟨k, hk.trans j.isLt⟩) ≠ none := hlowest _ hk
  simpa [Option.isSome_iff_ne_none] using hvalid

theorem firstInvalid_eq_none {x : Text} (hvalid : ∀ k : Fin 13, symbolIndex (textChar x k) ≠ none) :
    firstInvalid x = none := by
  simpa [firstInvalid] using hvalid

/-- The pad bit of R152 is the lowest bit of the last index. -/
theorem bitsOfText_padBit (x : Text) : (bitsOfText x).getLsbD 0 = (textGroup x 12).getLsbD 0 := by
  rw [bitsOfText, getLsbD_append_60_5, if_pos (by decide)]

theorem decodeText_of_length_ne {n : Byte} (x : Text) (h : n ≠ 13) : decodeText x n = .error (.decodeLength n) :=
  if_pos h

theorem decodeText_of_firstInvalid {x : Text} {j : Fin 13} (h : firstInvalid x = some j) :
    decodeText x 13 = .error (.decodeChar j) := by
  simp [decodeText, h]

theorem decodeText_of_padBit {x : Text} (hvalid : firstInvalid x = none) (hpad : (bitsOfText x).getLsbD 0 = true) :
    decodeText x 13 = .error .decodeNoncanonical := by
  simp [decodeText, hvalid, hpad]

/-- B32DEC, and HTOID with a key bound, raise what Decode ends with, and write nothing else (R202). -/
theorem exec_of_decodeText_error {i : Instr} {s : State} {e : CmdError}
    (hi : i = .b32dec ∨ (i = .htoid ∧ s.status.keyValid = true))
    (he : decodeText s.snap.txt s.snap.txtLen = .error e) : exec i s = .next (finish (raise e s)) := by
  rcases hi with rfl | ⟨rfl, hbound⟩
  · rw [exec, execB32dec, he, complete]
  · rw [exec, execHtoid, requireKey_of_valid hbound, he, complete]

/-- Settles O16: each clause gives Decode's error, and the two commands raise it. -/
theorem decodeErrorsRaised : Obligations.DecodeErrorsRaised := by
  intro i s hi
  refine ⟨fun hlen => ?_, fun j hlen hinvalid hlowest => ?_, fun g hlen hvalid hlast hodd => ?_⟩
  · exact exec_of_decodeText_error hi (decodeText_of_length_ne _ hlen)
  · have he : decodeText s.snap.txt s.snap.txtLen = .error (.decodeChar j) := by
      rw [hlen]
      exact decodeText_of_firstInvalid (firstInvalid_eq_some hinvalid hlowest)
    exact exec_of_decodeText_error hi he
  · have hpad : (bitsOfText s.snap.txt).getLsbD 0 = true := by
      rw [bitsOfText_padBit, textGroup, hlast]
      exact hodd
    have he : decodeText s.snap.txt s.snap.txtLen = .error .decodeNoncanonical := by
      rw [hlen]
      exact decodeText_of_padBit (firstInvalid_eq_none hvalid) hpad
    exact exec_of_decodeText_error hi he

end Sys2Proof.Machine
end

section
/-!
PROOFS, transactions while busy (spec/70_reset_and_hazards.md): an aligned write is dropped and sets `OVR`, which only an
acceptance or a reset clears (R231); which aligned reads return a free value, and what the others return (R232).
-/

namespace Sys2Proof.Machine

theorem accessOk_of_aligned {off : BitVec 7} (h : off.toNat % 4 = 0) : accessOk off 4 = true := by
  simp [accessOk, h]

theorem hostWrite_busy {s : State} {off : BitVec 7} (v : Word) (haligned : off.toNat % 4 = 0)
    (hreset : s.resetHeld = false) (hbusy : s.status.busy = true) :
    hostWrite off 4 v s = answer none false { s with status := statusOverrun s.status } := by
  simp [hostWrite, accessOk_of_aligned haligned, hreset, hbusy]

/-- A success, a raise and the end of completion leave `OVR` as it is (R201, R203). -/
theorem engineTurn_keeps_ovr {s t : State} (h : engineTurn s = .next t) : t.status.ovr = s.status.ovr := by
  rcases engineTurn_cases h with ⟨_, rfl⟩ | ⟨_, i, _, hexec⟩ | ⟨_, _, rfl⟩
  · rfl
  · rcases exec_cases hexec with ⟨u, rfl, _, _, _, hovr, _⟩ | ⟨e, rfl, _⟩
    · exact hovr
    · rfl
  · rfl

/-- Of the four things a write can do to the core, acceptance is the one that clears `OVR` (R200). -/
theorem serveWrite_accepts_of_clears_ovr {s : State} {a : Target} {width : Nat} {v : Word}
    (hset : s.status.ovr = true) (hclear : (serveWrite a width v s).status.ovr = false) :
    presentsCommand (.write a width v) = true ∧ s.status.busy = false ∧
      (serveWrite a width v s).status.busy = true := by
  rcases serveWrite_effect a width v s with ⟨r, heq⟩ | ⟨_, _, _, r, heq⟩ | ⟨_, hidle, off, r, htarget, hok, hcmd, heq⟩ |
    ⟨_, _, off, r, _, _, _, heq⟩
  · simp [heq, hset] at hclear
  · simp [heq] at hclear
  · exact ⟨by simp [presentsCommand, htarget, hok, hcmd], hidle, by simp [heq]⟩
  · simp [heq, hset] at hclear

theorem serveRead_keeps_status (a : Target) (width : Nat) (s : State) :
    (serveRead a width s).status = s.status := by
  obtain ⟨r, n, heq⟩ := serveRead_eq a width s
  rw [heq]

/-- The second sentence of R231, for one event. -/
theorem serve_clears_ovr {e : Event} {s t : State} (h : serve e s = .next t) (hset : s.status.ovr = true)
    (hclear : t.status.ovr = false) :
    (presentsCommand e = true ∧ s.status.busy = false ∧ t.status.busy = true) ∨ e = .resetAssert := by
  cases e with
  | write a width v =>
    cases h
    exact .inl (serveWrite_accepts_of_clears_ovr hset hclear)
  | read a width =>
    cases h
    simp [serveRead_keeps_status, hset] at hclear
  | engine => simp [engineTurn_keeps_ovr h, hset] at hclear
  | resetAssert => exact .inr rfl
  | resetRelease =>
    cases h
    simp [hset] at hclear

/-- Settles O46: a busy core drops the write before it looks at the register; and a step that clears `OVR` serves an event,
since the engine's turn keeps `OVR`. -/
theorem writesWhileBusyDropped : Obligations.WritesWhileBusyDropped := by
  refine ⟨fun s off v rest hinbox haligned hreset hbusy => ⟨some ⟨none, false⟩, ?_⟩, fun s t h hset hclear => ?_⟩
  · rw [step_cons hinbox]
    exact congrArg Host.Outcome.next (hostWrite_busy (s := { s with inbox := rest }) v haligned hreset hbusy)
  · cases hinbox : s.inbox with
    | nil =>
      rw [step_nil hinbox] at h
      simp [engineTurn_keeps_ovr h, hset] at hclear
    | cons e rest =>
      rw [step_cons hinbox] at h
      exact ⟨e, rest, rfl, serve_clears_ovr (s := { s with inbox := rest }) h hset hclear⟩

theorem hostRead_unspecified {s : State} {off : BitVec 7} (haligned : off.toNat % 4 = 0) (hreset : s.resetHeld = false)
    (hbusy : s.status.busy = true) (hfree : unspecifiedWhileBusy (regAt off) = true) :
    hostRead off 4 s = answer (some (Config.busyReadValue s.draws)) false { s with draws := s.draws + 1 } := by
  simp [hostRead, accessOk_of_aligned haligned, hreset, hbusy, hfree]

/-- Out of reset, a register whose reads are defined is read whether the core is busy or not (R52, R232). -/
theorem hostRead_defined {s : State} {off : BitVec 7} {r : Reg} (haligned : off.toNat % 4 = 0)
    (hreset : s.resetHeld = false) (hreg : regAt off = r) (hdefined : unspecifiedWhileBusy r = false) :
    hostRead off 4 s = answer (some (readReg s r)) false s := by
  simp [hostRead, accessOk_of_aligned haligned, hreset, hreg, hdefined]

/-- R232's registers by their offsets (R20). -/
theorem unspecifiedWhileBusy_regAt_iff : ∀ off : BitVec 7, off.toNat % 4 = 0 →
    (off ∈ [0x0C#7, 0x10#7, 0x14#7, 0x18#7, 0x1C#7, 0x20#7, 0x24#7, 0x28#7, 0x2C#7] ↔
      unspecifiedWhileBusy (regAt off) = true) := by
  decide

/-- `CMD` and the reserved slots (R20, R34). -/
theorem regAt_cmd_or_rsvd : ∀ off ∈ [0x00#7, 0x34#7, 0x38#7, 0x3C#7, 0x78#7, 0x7C#7],
    off.toNat % 4 = 0 ∧ (regAt off = .cmd ∨ regAt off = .rsvd) := by
  decide

/-- The `KEY` slots (R20). -/
theorem regAt_key : ∀ k : Fin 14,
    (BitVec.ofNat 7 (0x40 + 4 * k.val)).toNat % 4 = 0 ∧ regAt (BitVec.ofNat 7 (0x40 + 4 * k.val)) = .key k := by
  decide

/-- Settles O47: the free value is drawn for R232's registers alone; any other slot is read as its register says. -/
theorem readsWhileBusy : Obligations.ReadsWhileBusy := by
  intro s off hreset hbusy haligned
  refine ⟨fun hfree => ⟨_, hostRead_unspecified haligned hreset hbusy hfree⟩, unspecifiedWhileBusy_regAt_iff off haligned,
    ?status, ?keyLen, ?version, fun o ho => ?cmdOrRsvd, fun k => ?key⟩
  case status => exact hostRead_defined (r := .status) rfl hreset rfl rfl
  case keyLen =>
    have hzext : s.keyLen.setWidth 32 = 0#24 ++ s.keyLen := by simp [BitVec.setWidth_eq_append]
    rw [← hzext]
    exact hostRead_defined (r := .keyLen) rfl hreset rfl rfl
  case version => exact hostRead_defined (r := .version) rfl hreset rfl rfl
  case cmdOrRsvd =>
    obtain ⟨hslot, hcmd | hrsvd⟩ := regAt_cmd_or_rsvd o ho
    · exact hostRead_defined hslot hreset hcmd rfl
    · exact hostRead_defined hslot hreset hrsvd rfl
  case key =>
    obtain ⟨hslot, hkey⟩ := regAt_key k
    exact hostRead_defined hslot hreset hkey rfl

end Sys2Proof.Machine
end

section
/-!
PROOFS, encoding (spec/30_encoding.md R70 to R72): the three cases of the decoder, and that the words and the bytes it accepts
are the encodings.
-/

namespace Sys2Proof.Machine

/-- The opcode map of R71 read backwards. -/
theorem instrOfOpcode_eq_some_iff (op : Byte) (i : Instr) : instrOfOpcode op = some i ↔ op = opcodeOf i := by
  constructor
  · intro h
    unfold instrOfOpcode at h
    split at h <;> cases h <;> rfl
  · rintro rfl
    cases i <;> rfl

theorem opcodeOf_mem_assignedOpcodes (i : Instr) : opcodeOf i ∈ assignedOpcodes := by
  cases i <;> decide

/-- An assigned opcode is the opcode of a command, since every other one has no entry in the map. -/
theorem mem_assignedOpcodes_iff (op : Byte) : op ∈ assignedOpcodes ↔ ∃ i, op = opcodeOf i := by
  constructor
  · revert op
    simp only [← instrOfOpcode_eq_some_iff, ← Option.isSome_iff_exists]
    decide
  · rintro ⟨i, rfl⟩
    exact opcodeOf_mem_assignedOpcodes i

theorem decode_of_rsvd_ne {v : Word} (h : v.extractLsb' 8 24 ≠ 0#24) : decode v = .error .reservedBits := by
  simp [decode, CommandWord.ofWord, CommandWord.rsvdClear, h]

theorem decode_of_opcodeOf {v : Word} {i : Instr} (h : v.extractLsb' 8 24 = 0#24)
    (hop : v.extractLsb' 0 8 = opcodeOf i) : decode v = .ok i := by
  have hmap : instrOfOpcode (v.extractLsb' 0 8) = some i := (instrOfOpcode_eq_some_iff _ i).mpr hop
  simp [decode, CommandWord.ofWord, CommandWord.rsvdClear, h, hmap]

theorem decode_of_unassigned {v : Word} (h : v.extractLsb' 8 24 = 0#24)
    (hop : v.extractLsb' 0 8 ∉ assignedOpcodes) :
    decode v = .error (.unassignedOpcode (v.extractLsb' 0 8)) := by
  simp [decode, CommandWord.ofWord, CommandWord.rsvdClear, h, instrOfOpcode_eq_none hop]

/-- The three cases of R72 and R71, in the decoder's order. -/
theorem decode_cases (v : Word) :
    (v.extractLsb' 8 24 ≠ 0#24 ∧ decode v = .error .reservedBits) ∨
    (v.extractLsb' 8 24 = 0#24 ∧ v.extractLsb' 0 8 ∉ assignedOpcodes ∧
      decode v = .error (.unassignedOpcode (v.extractLsb' 0 8))) ∨
    (v.extractLsb' 8 24 = 0#24 ∧ ∃ i, v.extractLsb' 0 8 = opcodeOf i ∧ decode v = .ok i) := by
  by_cases hrsvd : v.extractLsb' 8 24 = 0#24
  · by_cases hop : v.extractLsb' 0 8 ∈ assignedOpcodes
    · obtain ⟨i, hi⟩ := (mem_assignedOpcodes_iff _).mp hop
      exact .inr (.inr ⟨hrsvd, i, hi, decode_of_opcodeOf hrsvd hi⟩)
    · exact .inr (.inl ⟨hrsvd, hop, decode_of_unassigned hrsvd hop⟩)
  · exact .inl ⟨hrsvd, decode_of_rsvd_ne hrsvd⟩

/-- A word is its two fields (R70). -/
theorem eq_encode_iff (v : Word) (i : Instr) :
    v = encode i ↔ v.extractLsb' 8 24 = 0#24 ∧ v.extractLsb' 0 8 = opcodeOf i := by
  constructor
  · rintro rfl
    cases i <;> exact ⟨rfl, rfl⟩
  · rintro ⟨hrsvd, hop⟩
    rw [encode, ← hrsvd, ← hop]
    exact (BitVec.extractLsb'_append_extractLsb' (w := 24) (len := 8) (x := v)).symm

theorem decode_encode (i : Instr) : decode (encode i) = .ok i :=
  have ⟨hrsvd, hop⟩ := (eq_encode_iff _ i).mp rfl
  decode_of_opcodeOf hrsvd hop

/-- Settles O1: of the decoder's three cases only the one of R71 answers a command, and it fixes both fields of the word. -/
theorem decodeAndEncodeAgree : Obligations.DecodeAndEncodeAgree := by
  intro v i
  constructor
  · intro h
    rcases decode_cases v with ⟨_, hd⟩ | ⟨_, _, hd⟩ | ⟨hrsvd, j, hop, hd⟩ <;> rw [hd] at h <;> cases h
    exact (eq_encode_iff v i).mpr ⟨hrsvd, hop⟩
  · rintro rfl
    exact decode_encode i

/-- The well-formed words are those of R71. -/
theorem wellFormed_ofWord_iff (v : Word) :
    (CommandWord.ofWord v).wellFormed = true ↔
      v.extractLsb' 8 24 = 0#24 ∧ v.extractLsb' 0 8 ∈ assignedOpcodes := by
  simp [CommandWord.wellFormed, CommandWord.rsvdClear, CommandWord.opcodeAssigned, CommandWord.ofWord]

/-- Settles O2: the decoder's three cases exclude one another. -/
theorem illegalWordsAreNamed : Obligations.IllegalWordsAreNamed := by
  intro v
  rw [wellFormed_ofWord_iff]
  rcases decode_cases v with ⟨hrsvd, hd⟩ | ⟨hrsvd, hop, hd⟩ | ⟨hrsvd, i, hop, hd⟩ <;> rw [hd]
  · simp [hrsvd]
  · refine ⟨by simp [hrsvd], fun op => ?_, by simp [hop]⟩
    constructor
    · intro h
      cases h
      exact ⟨hrsvd, rfl, hop⟩
    · rintro ⟨_, rfl, _⟩
      rfl
  · have hmem : v.extractLsb' 0 8 ∈ assignedOpcodes := hop ▸ opcodeOf_mem_assignedOpcodes i
    refine ⟨by simp [hrsvd], fun op => ?_, by simp [hrsvd, hmem]⟩
    constructor
    · exact fun h => nomatch h
    · rintro ⟨_, rfl, hnot⟩
      exact absurd hmem hnot

theorem append_inj {m n : Nat} {x x' : BitVec m} {y y' : BitVec n} (h : x ++ y = x' ++ y') : x = x' ∧ y = y' := by
  have hx := congrArg (BitVec.extractLsb' n m) h
  have hy := congrArg (BitVec.extractLsb' 0 n) h
  rw [BitVec.extractLsb'_append_eq_left, BitVec.extractLsb'_append_eq_left] at hx
  rw [BitVec.extractLsb'_append_eq_right, BitVec.extractLsb'_append_eq_right] at hy
  exact ⟨hx, hy⟩

/-- The lanes of a word are its four bytes (R54). -/
theorem wordOfLanes_inj {a0 a1 a2 a3 b0 b1 b2 b3 : Byte} :
    wordOfLanes a0 a1 a2 a3 = wordOfLanes b0 b1 b2 b3 ↔ a0 = b0 ∧ a1 = b1 ∧ a2 = b2 ∧ a3 = b3 := by
  constructor
  · intro h
    obtain ⟨h321, h0⟩ := append_inj (m := 24) (n := 8) h
    obtain ⟨h32, h1⟩ := append_inj (m := 16) (n := 8) h321
    obtain ⟨h3, h2⟩ := append_inj (m := 8) (n := 8) h32
    exact ⟨h0, h1, h2, h3⟩
  · rintro ⟨rfl, rfl, rfl, rfl⟩
    rfl

theorem encode_eq_wordOfLanes (i : Instr) : encode i = wordOfLanes (opcodeOf i) 0 0 0 := by
  cases i <;> rfl

theorem encodeBytes_eq (i : Instr) : encodeBytes i = [opcodeOf i, 0, 0, 0] := by
  cases i <;> rfl

/-- Settles O3: four bytes are one word by its lanes, and any other number of bytes is no command word. -/
theorem commandBytesDecode : Obligations.CommandBytesDecode := by
  intro bs i
  rw [encodeBytes_eq]
  unfold decodeBytes
  split
  next b0 b1 b2 b3 =>
    rw [decodeAndEncodeAgree, encode_eq_wordOfLanes, wordOfLanes_inj]
    simp
  next hnot =>
    constructor
    · exact fun h => nomatch h
    · exact fun h => absurd h (hnot _ _ _ _)

/-- Settles O4: seven closed words. -/
theorem specWordsDecode : Obligations.SpecWordsDecode := by
  unfold Obligations.SpecWordsDecode
  decide

end Sys2Proof.Machine
end

section
/-!
PROOFS, what the commands complete with (spec/60_exceptions.md R201): one equation for each command that succeeds, and the
commands that need neither the cipher's nor the codec's laws.
-/

namespace Sys2Proof.Machine

theorem exec_nop (s : State) : exec .nop s = .next (finish s) := rfl

theorem exec_tobytes (s : State) : exec .tobytes s = .next (finish { s with blk := toBytes s.snap.id }) := rfl

theorem exec_frombytes (s : State) : exec .frombytes s = .next (finish { s with id := fromBytes s.snap.blk }) := rfl

theorem exec_b32enc (s : State) :
    exec .b32enc s = .next (finish { s with txt := textBuffer (encodeText s.snap.blk), txtLen := 13 }) := rfl

theorem exec_keyset_of_legal {s : State} (h : keyLengthLegal s.snap.keyLen = true) :
    exec .keyset s = .next (finish { s with sched := bfSchedule (snapKeyBytes s), status := statusKeyBound s.status }) :=
  execKeyset_of_legal h

theorem exec_enc {s : State} (h : s.status.keyValid = true) :
    exec .enc s = .next (finish { s with blk := encryptBlock s.sched s.snap.blk }) := by
  rw [exec, execEnc, requireKey_of_valid h, complete]

theorem exec_dec {s : State} (h : s.status.keyValid = true) :
    exec .dec s = .next (finish { s with blk := decryptBlock s.sched s.snap.blk }) := by
  rw [exec, execDec, requireKey_of_valid h, complete]

theorem exec_pubid {s : State} (h : s.status.keyValid = true) :
    exec .pubid s = .next (finish { s with
      blk := encryptBlock s.sched (toBytes s.snap.id)
      id := fromBytes (encryptBlock s.sched (toBytes s.snap.id)) }) := by
  rw [exec, execPubid, requireKey_of_valid h, complete]

theorem exec_hpubid {s : State} (h : s.status.keyValid = true) :
    exec .hpubid s = .next (finish { s with
      blk := encryptBlock s.sched (toBytes s.snap.id)
      txt := textBuffer (encodeText (encryptBlock s.sched (toBytes s.snap.id)))
      txtLen := 13 }) := by
  rw [exec, execHpubid, requireKey_of_valid h, complete]

theorem exec_b32dec_of_decodeText {s : State} {b : Block} (h : decodeText s.snap.txt s.snap.txtLen = .ok b) :
    exec .b32dec s = .next (finish { s with blk := b }) := by
  rw [exec, execB32dec, h, complete]

theorem exec_htoid_of_decodeText {s : State} {c : Block} (hkey : s.status.keyValid = true)
    (h : decodeText s.snap.txt s.snap.txtLen = .ok c) :
    exec .htoid s = .next (finish { s with
      blk := decryptBlock s.sched c
      id := fromBytes (decryptBlock s.sched c) }) := by
  rw [exec, execHtoid, requireKey_of_valid hkey, h, complete]

/-- Settles O18: NOP's completion is the end of completion alone, and acceptance has cleared the error status. -/
theorem nopResult : Obligations.NopResult :=
  fun s => ⟨exec_nop s, exec_nop (accept 0x00000000#32 s)⟩

/-- Settles O19: the legal lengths are those from 1 to 56. -/
theorem keysetResult : Obligations.KeysetResult := by
  intro s hlow hhigh
  rw [exec_keyset_of_legal ((keyLengthLegal_iff _).mpr ⟨hlow, hhigh⟩)]
  simp only [finish, snapKeyBytes, statusKeyBound, statusIdle]

/-- Settles O26: the key check passes. -/
theorem pubidResult : Obligations.PubidResult := fun _ hkey => exec_pubid hkey

end Sys2Proof.Machine
end

section
/-!
PROOFS, the serializers (spec/42_byte_order.md R140, R141): their bytes, and that they are inverse (R144).
-/

namespace Sys2Proof.Machine

open Sys2Proof.Laws

theorem toBytes_getElem (x : IdWord) (i : Fin 8) : (toBytes x)[i] = x.extractLsb' (8 * i.val) 8 := by
  fin_cases i <;> rfl

theorem fromBytes_extractLsb' (b : Block) (i : Fin 8) : (fromBytes b).extractLsb' (8 * i.val) 8 = b[i] := by
  apply BitVec.eq_of_getLsbD_eq
  intro j hj
  rw [BitVec.getLsbD_extractLsb', fromBytes]
  fin_cases i <;> interval_cases j <;>
    simp [getElem_append_56_8, getElem_append_48_8, getElem_append_40_8, getElem_append_32_8, getElem_append_24_8,
      getElem_append_16_8, getElem_append_8_8]

/-- A 64-bit word is its eight bytes. -/
theorem idWord_ext {x y : IdWord} (h : ∀ i : Fin 8, x.extractLsb' (8 * i.val) 8 = y.extractLsb' (8 * i.val) 8) : x = y := by
  apply BitVec.eq_of_getLsbD_eq
  intro j hj
  have hbyte := congrArg (fun b => b.getLsbD (j % 8)) (h ⟨j / 8, by omega⟩)
  simpa [Nat.mod_lt, Nat.div_add_mod] using hbyte

theorem fromBytes_toBytes (x : IdWord) : fromBytes (toBytes x) = x :=
  idWord_ext fun i => (fromBytes_extractLsb' _ i).trans (toBytes_getElem x i)

theorem toBytes_fromBytes (b : Block) : toBytes (fromBytes b) = b :=
  Vector.ext fun i hi => (toBytes_getElem _ ⟨i, hi⟩).trans (fromBytes_extractLsb' b ⟨i, hi⟩)

/-- Settles O32: byte by byte, and the inverse laws from the bytes. -/
theorem serializersAreInverse : Obligations.SerializersAreInverse :=
  ⟨toBytes_getElem, fromBytes_extractLsb', fromBytes_toBytes, toBytes_fromBytes⟩

/-- Settles O20: the block is `ToBytes` of the snapshot's `ID`. -/
theorem tobytesResult : Obligations.TobytesResult :=
  fun s => ⟨toBytes s.snap.id, toBytes_getElem _, exec_tobytes s⟩

/-- Settles O21: the word is `FromBytes` of the snapshot's `BLK`. -/
theorem frombytesResult : Obligations.FrombytesResult :=
  fun s => ⟨fromBytes s.snap.blk, fromBytes_extractLsb' _, exec_frombytes s⟩

end Sys2Proof.Machine
end

section
/-!
PROOFS, a command's completion (spec/60_exceptions.md R201, R202): it always comes, and what it leaves as it was.
-/

namespace Sys2Proof.Machine

theorem exec_answers (i : Instr) (s : State) : ∃ t, exec i s = .next t := by
  cases i
  case nop | tobytes | frombytes | b32enc => exact ⟨_, rfl⟩
  all_goals exact complete_next s _

theorem exec_busy_ovr_keyValid {i : Instr} {s t : State} (h : exec i s = .next t) :
    t.status.busy = false ∧ t.status.ovr = s.status.ovr ∧
      (i ≠ .keyset → t.status.keyValid = s.status.keyValid) := by
  rcases exec_cases h with ⟨u, rfl, _, _, _, hovr, hkey⟩ | ⟨e, rfl, _⟩
  · exact ⟨rfl, hovr, fun hi => by simpa [hi] using hkey⟩
  · exact ⟨rfl, rfl, fun _ => rfl⟩

theorem finish_raise_nonDestinationsKept (i : Instr) (e : CmdError) (s : State) :
    nonDestinationsKept i s (finish (raise e s)) := by
  cases i <;> simp [nonDestinationsKept]

/-- A raise writes no register (R202), and the pseudocode of each command writes its destinations only (R73). -/
theorem exec_nonDestinationsKept {i : Instr} {s t : State} (h : exec i s = .next t) : nonDestinationsKept i s t := by
  cases i
  case keyset =>
    rcases execKeyset_cases h with ⟨_, rfl⟩ | ⟨_, rfl⟩
    · simp [nonDestinationsKept]
    · exact finish_raise_nonDestinationsKept _ _ s
  case b32dec =>
    rcases execB32dec_cases h with ⟨_, _, rfl⟩ | ⟨_, _, rfl⟩
    · simp [nonDestinationsKept]
    · exact finish_raise_nonDestinationsKept _ _ s
  case htoid =>
    rcases execHtoid_cases h with ⟨_, rfl⟩ | ⟨_, _, _, rfl⟩ | ⟨_, _, _, rfl⟩
    · exact finish_raise_nonDestinationsKept _ _ s
    · simp [nonDestinationsKept]
    · exact finish_raise_nonDestinationsKept _ _ s
  case enc | dec | pubid | hpubid =>
    rcases completeRequireKey_cases h with ⟨_, rfl⟩ | ⟨_, hbody⟩
    · exact finish_raise_nonDestinationsKept _ _ s
    · cases hbody
      simp [nonDestinationsKept]
  case nop | tobytes | frombytes | b32enc =>
    cases h
    simp [nonDestinationsKept]

/-- What the engine and the model keep of their own from `s` to `t` over a completion. -/
def EngineFieldsKept (s t : State) : Prop :=
  t.cmdWord = s.cmdWord ∧ t.snap = s.snap ∧ t.resetHeld = s.resetHeld ∧
    t.inbox = s.inbox ∧ t.reply = s.reply ∧ t.draws = s.draws

theorem finish_raise_engineFieldsKept (e : CmdError) (s : State) : EngineFieldsKept s (finish (raise e s)) :=
  ⟨rfl, rfl, rfl, rfl, rfl, rfl⟩

theorem exec_engineFieldsKept {i : Instr} {s t : State} (h : exec i s = .next t) : EngineFieldsKept s t := by
  cases i
  case keyset =>
    rcases execKeyset_cases h with ⟨_, rfl⟩ | ⟨_, rfl⟩ <;> simp [EngineFieldsKept]
  case b32dec =>
    rcases execB32dec_cases h with ⟨_, _, rfl⟩ | ⟨_, _, rfl⟩ <;> simp [EngineFieldsKept]
  case htoid =>
    rcases execHtoid_cases h with ⟨_, rfl⟩ | ⟨_, _, _, rfl⟩ | ⟨_, _, _, rfl⟩ <;> simp [EngineFieldsKept]
  case enc | dec | pubid | hpubid =>
    rcases completeRequireKey_cases h with ⟨_, rfl⟩ | ⟨_, hbody⟩
    · exact finish_raise_engineFieldsKept _ s
    · cases hbody
      simp [EngineFieldsKept]
  case nop | tobytes | frombytes | b32enc =>
    cases h
    simp [EngineFieldsKept]

/-- Settles O8: the status, the registers and the engine's own fields, each by its lemma. -/
theorem commandFrame : Obligations.CommandFrame := by
  intro i s
  obtain ⟨t, h⟩ := exec_answers i s
  obtain ⟨hbusy, hovr, hkey⟩ := exec_busy_ovr_keyValid h
  exact ⟨t, h, hbusy, hovr, hkey, exec_nonDestinationsKept h, exec_engineFieldsKept h⟩

/-- Only KEYSET lists the schedule among its destinations (R73). -/
theorem exec_keeps_sched {i : Instr} {s t : State} (hi : i ≠ .keyset) (h : exec i s = .next t) : t.sched = s.sched := by
  have hkept := exec_nonDestinationsKept h
  cases i <;> simp_all [nonDestinationsKept]

end Sys2Proof.Machine
end

section
/-!
PROOFS, the step (spec/00_scope.md R16, spec/20_memory.md R59): everything one step can do, said once; and that it always
answers.
-/

namespace Sys2Proof.Machine

/-- What a step can do to the state `s` that serving the event `e` starts from; `none` stands for no pending event. -/
inductive StepEffect (e : Option Event) (s : State) : State → Prop
  /-- A read, a refused write, a write in reset, an access outside the window, or the turn of an idle engine. -/
  | quiet (r : Option Reply) (n : Nat) : StepEffect e s { s with reply := r, draws := n }
  /-- A write dropped while busy (R231). -/
  | overrun (ev : Event) (r : Option Reply) (he : e = some ev) (hwrite : isAlignedWrite ev = true)
      (hreset : s.resetHeld = false) (hbusy : s.status.busy = true) :
      StepEffect e s { s with reply := r, status := statusOverrun s.status }
  /-- A command word accepted (R200). -/
  | accepted (ev : Event) (v : Word) (r : Option Reply) (he : e = some ev) (hcmd : presentsCommand ev = true)
      (hreset : s.resetHeld = false) (hidle : s.status.busy = false) :
      StepEffect e s { accept v s with reply := r }
  /-- A register written while idle (R52). -/
  | stored (reg : Reg) (v : Word) (r : Option Reply) (hreset : s.resetHeld = false) (hidle : s.status.busy = false) :
      StepEffect e s { storeReg s reg v with reply := r }
  /-- The command in flight completed (R201). -/
  | completed (i : Instr) (t : State) (hturn : e = none ∨ e = some .engine) (hbusy : s.status.busy = true)
      (hfetch : fetch s = .ok i) (hexec : exec i s = .next t) : StepEffect e s t
  /-- An illegal word completed (R205). -/
  | illegal (r : Illegal) (hturn : e = none ∨ e = some .engine) (hbusy : s.status.busy = true)
      (hfetch : fetch s = .error r) : StepEffect e s (finish (raise (.illegalCmd s.curOp) s))
  /-- The reset input asserted (R230). -/
  | resetAsserted (he : e = some .resetAssert) : StepEffect e s (resetAssert s)
  /-- The reset input released (R230). -/
  | resetReleased : StepEffect e s (resetRelease s)

theorem stepEffect_of_serveWrite (a : Target) (width : Nat) (v : Word) (s : State) :
    StepEffect (some (.write a width v)) s (serveWrite a width v s) := by
  rcases serveWrite_effect a width v s with ⟨r, heq⟩ | ⟨hreset, hbusy, ⟨off, htarget, hok⟩, r, heq⟩ |
    ⟨hreset, hidle, off, r, htarget, hok, hcmd, heq⟩ | ⟨hreset, hidle, off, r, _, _, _, heq⟩ <;> rw [heq]
  · exact .quiet r s.draws
  · exact .overrun _ r rfl (by simp [isAlignedWrite, htarget, hok]) hreset hbusy
  · exact .accepted _ v r rfl (by simp [presentsCommand, htarget, hok, hcmd]) hreset hidle
  · exact .stored _ v r hreset hidle

theorem stepEffect_of_engineTurn {e : Option Event} {s t : State} (hturn : e = none ∨ e = some .engine)
    (h : engineTurn s = .next t) : StepEffect e s t := by
  rcases engineTurn_cases h with ⟨_, rfl⟩ | ⟨hbusy, i, hfetch, hexec⟩ | ⟨hbusy, ⟨r, hfetch⟩, rfl⟩
  · exact .quiet t.reply t.draws
  · exact .completed i t hturn hbusy hfetch hexec
  · exact .illegal r hturn hbusy hfetch

theorem stepEffect_of_serve {e : Event} {s t : State} (h : serve e s = .next t) : StepEffect (some e) s t := by
  cases e with
  | write a width v =>
    cases h
    exact stepEffect_of_serveWrite a width v s
  | read a width =>
    cases h
    obtain ⟨r, n, heq⟩ := serveRead_eq a width s
    rw [heq]
    exact .quiet r n
  | engine => exact stepEffect_of_engineTurn (.inr rfl) h
  | resetAssert =>
    cases h
    exact .resetAsserted rfl
  | resetRelease =>
    cases h
    exact .resetReleased

theorem step_effect {s t : State} (h : step s = .next t) :
    StepEffect s.inbox.head? { s with inbox := s.inbox.tail } t := by
  cases hinbox : s.inbox with
  | nil =>
    rw [step_nil hinbox] at h
    have hsame : ({ s with inbox := [] } : State) = s := by rw [← hinbox]
    exact stepEffect_of_engineTurn (.inl rfl) (by rwa [List.tail_nil, hsame])
  | cons e rest =>
    rw [step_cons hinbox] at h
    exact stepEffect_of_serve h

theorem engineTurn_answers (s : State) : ∃ t, engineTurn s = .next t := by
  unfold engineTurn stepEngine
  split
  · split
    · exact exec_answers _ s
    · exact complete_next s _
  · exact ⟨s, rfl⟩

theorem step_answers (s : State) : ∃ t, step s = .next t := by
  cases hinbox : s.inbox with
  | nil =>
    rw [step_nil hinbox]
    exact engineTurn_answers s
  | cons e rest =>
    rw [step_cons hinbox]
    cases e
    case engine => exact engineTurn_answers _
    all_goals exact ⟨_, rfl⟩

/-- Settles O11: every event has a meaning, and so has every completion. -/
theorem stepNeverStops : Obligations.StepNeverStops := step_answers

end Sys2Proof.Machine
end

section
/-!
PROOFS, the invariant of the machine: it holds at reset, and every effect of a step keeps it.
-/

namespace Sys2Proof.Machine

theorem statusConsistent_of_clear {st : Status} (herr : st.err = false) (hcode : st.errCode = .none)
    (hinfo : st.errInfo = 0) : statusConsistent st := by
  simp [statusConsistent, herr, hcode, hinfo]

/-- A running command shows no error (R200). -/
theorem statusConsistent_busy {st : Status} (h : statusConsistent st) (hbusy : st.busy = true) :
    st.err = false ∧ st.errCode = .none ∧ st.errInfo = 0 := by
  obtain ⟨herr, hnone, hinfo⟩ := h
  have hcode := hnone hbusy
  rw [hcode] at hinfo
  exact ⟨by simpa [hcode] using herr, hcode, hinfo⟩

theorem statusConsistent_overrun {st : Status} (h : statusConsistent st) : statusConsistent (statusOverrun st) := h

/-- The command in flight is the one whose word stands in `cmdWord`. -/
theorem cmdWord_of_fetch {s : State} {i : Instr} (h : fetch s = .ok i) : s.cmdWord = encode i :=
  (decodeAndEncodeAgree s.cmdWord i).mp h

/-- The error information a raise of Decode records (R31). -/
theorem statusConsistent_of_decodeText_error {x : Text} {n : Byte} {e : CmdError} (st : Status)
    (h : decodeText x n = .error e) : statusConsistent (statusIdle (statusAfterRaise e st)) := by
  rcases decodeText_error h with ⟨hlen, rfl⟩ | ⟨_, j, _, rfl⟩ | ⟨_, _, _, rfl⟩
  · simpa [statusConsistent, errorCode, errorInfo] using hlen
  · have hj : j.val % 256 ≤ 12 := by omega
    simpa [statusConsistent, errorCode, errorInfo] using hj
  · simp [statusConsistent, errorCode, errorInfo]

theorem statusConsistent_of_invalidKeyLength {st : Status} {n : Byte} (hkey : st.keyValid = false)
    (hlen : keyLengthLegal n = false) : statusConsistent (statusIdle (statusAfterRaise (.invalidKeyLength n) st)) := by
  have hrange : n.toNat = 0 ∨ 56 < n.toNat := by
    have := (keyLengthLegal_eq_false n).mp hlen
    omega
  refine ⟨by simp [errorCode], by simp, hkey, hrange⟩

theorem statusConsistent_of_noKey {st : Status} {i : Instr} (hkey : st.keyValid = false) (hneeds : needsKey i = true) :
    statusConsistent (statusIdle (statusAfterRaise (.noKey (opcodeOf i)) st)) := by
  refine ⟨by simp [errorCode], by simp, hkey, ?_⟩
  cases i
  case enc | dec | pubid | hpubid | htoid => simp [errorInfo, opcodeOf]
  all_goals contradiction

/-- A completion leaves an error status that R31 and R204 allow. -/
theorem exec_statusConsistent {i : Instr} {s t : State} (hst : statusConsistent s.status)
    (hengine : engineConsistent s) (hbusy : s.status.busy = true) (hfetch : fetch s = .ok i)
    (h : exec i s = .next t) : statusConsistent t.status := by
  rcases exec_cases h with ⟨u, rfl, herr, hcode, hinfo, _⟩ |
    ⟨e, rfl, ⟨rfl, rfl, hlen⟩ | ⟨hneeds, hkey, rfl⟩ | ⟨_, hdecode⟩⟩
  · obtain ⟨hbusyErr, hbusyCode, hbusyInfo⟩ := statusConsistent_busy hst hbusy
    exact statusConsistent_of_clear (herr.trans hbusyErr) (hcode.trans hbusyCode) (hinfo.trans hbusyInfo)
  · obtain ⟨_, hunbound⟩ := hengine hbusy
    exact statusConsistent_of_invalidKeyLength (hunbound (cmdWord_of_fetch hfetch)) hlen
  · exact statusConsistent_of_noKey hkey hneeds
  · exact statusConsistent_of_decodeText_error _ hdecode

theorem snapKeyBytes_length {s : State} (h : keyLengthLegal s.snap.keyLen = true) :
    1 ≤ (snapKeyBytes s).length ∧ (snapKeyBytes s).length ≤ 56 := by
  have hrange := (keyLengthLegal_iff _).mp h
  simp only [snapKeyBytes, List.length_take, Vector.length_toList]
  omega

theorem engineConsistent_of_idle {s : State} (h : s.status.busy = false) : engineConsistent s :=
  fun hbusy => absurd (h.symm.trans hbusy) (by decide)

theorem keyConsistent_of_unbound {s : State} (h : s.status.keyValid = false) : keyConsistent s :=
  fun hbound => absurd (h.symm.trans hbound) (by decide)

theorem resetConsistent_of_released {s : State} (h : s.resetHeld = false) : resetConsistent s :=
  fun hreset => absurd (h.symm.trans hreset) (by decide)

/-- A bound key is the one a KEYSET with a legal length bound. -/
theorem exec_keyConsistent {i : Instr} {s t : State} (hengine : engineConsistent s) (hkey : keyConsistent s)
    (hbusy : s.status.busy = true) (hfetch : fetch s = .ok i) (h : exec i s = .next t) : keyConsistent t := by
  by_cases hi : i = .keyset
  · subst hi
    rcases execKeyset_cases h with ⟨hlegal, rfl⟩ | ⟨_, rfl⟩
    · obtain ⟨hlow, hhigh⟩ := snapKeyBytes_length hlegal
      exact fun _ => ⟨snapKeyBytes s, hlow, hhigh, rfl⟩
    · obtain ⟨_, hunbound⟩ := hengine hbusy
      exact keyConsistent_of_unbound (hunbound (cmdWord_of_fetch hfetch))
  · obtain ⟨_, _, hkept⟩ := exec_busy_ovr_keyValid h
    unfold keyConsistent
    rw [hkept hi, exec_keeps_sched hi h]
    exact hkey

/-- Reset abandons the command in flight (R230), so a busy core is out of reset. -/
theorem resetHeld_of_busy {s : State} (h : resetConsistent s) (hbusy : s.status.busy = true) : s.resetHeld = false := by
  cases hreset : s.resetHeld with
  | false => rfl
  | true =>
    obtain ⟨_, _, _, _, _, _, hstatus⟩ := h hreset
    rw [hstatus] at hbusy
    cases hbusy

theorem exec_keeps_coreInv {i : Instr} {s t : State} (hinv : CoreInv s) (hbusy : s.status.busy = true)
    (hfetch : fetch s = .ok i) (h : exec i s = .next t) : CoreInv t := by
  obtain ⟨hst, hengine, hkey, hreset⟩ := hinv
  obtain ⟨hidle, _, _⟩ := exec_busy_ovr_keyValid h
  obtain ⟨_, _, hheld, _⟩ := exec_engineFieldsKept h
  exact ⟨exec_statusConsistent hst hengine hbusy hfetch h, engineConsistent_of_idle hidle,
    exec_keyConsistent hengine hkey hbusy hfetch h,
    resetConsistent_of_released (hheld.trans (resetHeld_of_busy hreset hbusy))⟩

theorem accept_keeps_coreInv {v : Word} {s : State} {r : Option Reply} (hkey : keyConsistent s)
    (hreset : s.resetHeld = false) : CoreInv { accept v s with reply := r } := by
  refine ⟨statusConsistent_of_clear rfl rfl rfl, fun _ => ⟨rfl, fun hv => ?_⟩, fun hbound => hkey ?_,
    resetConsistent_of_released hreset⟩
  · exact if_pos hv
  · have hkept : (if v = 0x00000001#32 then false else s.status.keyValid) = true := hbound
    split at hkept
    · cases hkept
    · exact hkept

theorem illegal_keeps_coreInv {s : State} {b : Byte} (hinv : CoreInv s) (hbusy : s.status.busy = true) :
    CoreInv (finish (raise (.illegalCmd b) s)) := by
  obtain ⟨_, _, hkey, hreset⟩ := hinv
  have hheld : s.resetHeld = false := resetHeld_of_busy hreset hbusy
  exact ⟨by simp [statusConsistent, errorCode], engineConsistent_of_idle rfl, hkey, resetConsistent_of_released hheld⟩

/-- A store touches neither `STATUS` nor the schedule, and it needs an idle core out of reset. -/
theorem storeReg_keeps_coreInv {reg : Reg} {v : Word} {s : State} {r : Option Reply} (hinv : CoreInv s)
    (hreset : s.resetHeld = false) (hidle : s.status.busy = false) : CoreInv { storeReg s reg v with reply := r } := by
  obtain ⟨hst, _, hkey, _⟩ := hinv
  refine ⟨by simpa using hst, engineConsistent_of_idle (by simpa using hidle), ?_,
    resetConsistent_of_released (by simpa using hreset)⟩
  simpa [keyConsistent] using hkey

theorem resetAssert_coreInv (s : State) : CoreInv (resetAssert s) :=
  ⟨statusConsistent_of_clear rfl rfl rfl, engineConsistent_of_idle rfl, keyConsistent_of_unbound rfl,
    fun _ => ⟨rfl, rfl, rfl, rfl, rfl, rfl, rfl⟩⟩

theorem stepEffect_keeps_coreInv {e : Option Event} {s t : State} (hinv : CoreInv s) (h : StepEffect e s t) :
    CoreInv t := by
  have ⟨hst, hengine, hkey, hreset⟩ := hinv
  cases h with
  | quiet r n => exact hinv
  | overrun ev r he hwrite hheld hbusy =>
    exact ⟨statusConsistent_overrun hst, hengine, hkey, resetConsistent_of_released hheld⟩
  | accepted ev v r he hcmd hheld hidle => exact accept_keeps_coreInv hkey hheld
  | stored reg v r hheld hidle => exact storeReg_keeps_coreInv hinv hheld hidle
  | completed i t hturn hbusy hfetch hexec => exact exec_keeps_coreInv hinv hbusy hfetch hexec
  | illegal r hturn hbusy hfetch => exact illegal_keeps_coreInv hinv hbusy
  | resetAsserted he => exact resetAssert_coreInv s
  | resetReleased => exact ⟨hst, hengine, hkey, resetConsistent_of_released rfl⟩

/-- Settles O54: the invariant says nothing of `inbox`, and each effect of a step keeps it. -/
theorem stepKeepsInvariant : Obligations.StepKeepsInvariant :=
  fun s _ hinv h => stepEffect_keeps_coreInv (s := { s with inbox := s.inbox.tail }) hinv (step_effect h)

/-- Settles O53: at reset no command runs and no key is bound. -/
theorem resetSatisfiesInvariant : Obligations.ResetSatisfiesInvariant :=
  ⟨statusConsistent_of_clear rfl rfl rfl, engineConsistent_of_idle rfl, keyConsistent_of_unbound rfl,
    resetConsistent_of_released rfl⟩

/-- Settles O52: every value of R38 is written out in `State.reset`. -/
theorem resetState : Obligations.ResetState :=
  ⟨rfl, fun _ => Vector.getElem_replicate _, fun _ => Vector.getElem_replicate _, rfl,
    fun _ => Vector.getElem_replicate _, rfl, rfl, rfl⟩

end Sys2Proof.Machine
end

section
/-!
PROOFS, rules of the whole machine: `KEY_VALID`, the schedule, `OVR`, `STATUS` and `BUSY` over one step, each read off the
effects a step can have.
-/

namespace Sys2Proof.Machine

/-- The event that was served stands at the head of the list. -/
theorem inbox_eq_of_head? {s : State} {e : Event} (h : s.inbox.head? = some e) : ∃ rest, s.inbox = e :: rest :=
  List.head?_eq_some_iff.mp h

theorem exec_keyValid_changed {i : Instr} {s t : State} (h : exec i s = .next t)
    (hchanged : t.status.keyValid ≠ s.status.keyValid) :
    i = .keyset ∧ keyLengthLegal s.snap.keyLen = true ∧ t.status.keyValid = true := by
  by_cases hi : i = .keyset
  · subst hi
    rcases execKeyset_cases h with ⟨hlegal, rfl⟩ | ⟨_, rfl⟩
    · exact ⟨rfl, hlegal, rfl⟩
    · exact absurd rfl hchanged
  · obtain ⟨_, _, hkept⟩ := exec_busy_ovr_keyValid h
    exact absurd (hkept hi) hchanged

/-- Settles O55: the three effects that write `KEY_VALID` are acceptance, completion and reset. -/
theorem keyValidChanges : Obligations.KeyValidChanges := by
  intro s t h hchanged
  cases step_effect h with
  | quiet r n => exact absurd rfl hchanged
  | overrun ev r he hwrite hreset hbusy => exact absurd rfl hchanged
  | accepted ev v r he hcmd hreset hidle =>
    by_cases hv : v = 0x00000001#32
    · exact .inl ⟨if_pos hv, hidle, rfl, hv⟩
    · exact absurd (if_neg hv) hchanged
  | stored reg v r hreset hidle => simp at hchanged
  | completed i _ hturn hbusy hfetch hexec =>
    obtain ⟨rfl, hlegal, hbound⟩ := exec_keyValid_changed hexec hchanged
    exact .inr (.inl ⟨hbound, hbusy, cmdWord_of_fetch hfetch, hlegal⟩)
  | illegal r hturn hbusy hfetch => exact absurd rfl hchanged
  | resetAsserted he => exact .inr (.inr (inbox_eq_of_head? he))
  | resetReleased => exact absurd rfl hchanged

theorem exec_sched_changed {i : Instr} {s t : State} (h : exec i s = .next t) (hchanged : t.sched ≠ s.sched) :
    i = .keyset ∧ keyLengthLegal s.snap.keyLen = true ∧ t.sched = bfSchedule (snapKeyBytes s) := by
  by_cases hi : i = .keyset
  · subst hi
    rcases execKeyset_cases h with ⟨hlegal, rfl⟩ | ⟨_, rfl⟩
    · exact ⟨rfl, hlegal, rfl⟩
    · exact absurd rfl hchanged
  · exact absurd (exec_keeps_sched hi h) hchanged

/-- Settles O56: the two effects that write the schedule are completion and reset. -/
theorem scheduleChanges : Obligations.ScheduleChanges := by
  intro s t h hchanged
  cases step_effect h with
  | quiet r n => exact absurd rfl hchanged
  | overrun ev r he hwrite hreset hbusy => exact absurd rfl hchanged
  | accepted ev v r he hcmd hreset hidle => exact absurd rfl hchanged
  | stored reg v r hreset hidle => simp at hchanged
  | completed i _ hturn hbusy hfetch hexec =>
    obtain ⟨rfl, hlegal, hsched⟩ := exec_sched_changed hexec hchanged
    exact .inl ⟨hbusy, cmdWord_of_fetch hfetch, hlegal, hsched⟩
  | illegal r hturn hbusy hfetch => exact absurd rfl hchanged
  | resetAsserted he => exact .inr (inbox_eq_of_head? he)
  | resetReleased => exact absurd rfl hchanged

/-- Settles O57: the one effect that sets `OVR` is the dropped write. -/
theorem overrunSetOnlyByDroppedWrite : Obligations.OverrunSetOnlyByDroppedWrite := by
  intro s t h hclear hset
  cases step_effect h with
  | quiet r n => simp [hclear] at hset
  | overrun ev r he hwrite hreset hbusy =>
    obtain ⟨rest, hinbox⟩ := inbox_eq_of_head? he
    exact ⟨hbusy, ev, rest, hinbox, hwrite⟩
  | accepted ev v r he hcmd hreset hidle => simp at hset
  | stored reg v r hreset hidle => simp [hclear] at hset
  | completed i _ hturn hbusy hfetch hexec =>
    obtain ⟨_, hkept, _⟩ := exec_busy_ovr_keyValid hexec
    simp [hkept, hclear] at hset
  | illegal r hturn hbusy hfetch => simp [hclear] at hset
  | resetAsserted he => cases hset
  | resetReleased => simp [hclear] at hset

/-- Settles O58: of the effects of a step, an idle core out of an acceptance and a reset has only those that keep `STATUS`. -/
theorem idleStatusPersists : Obligations.IdleStatusPersists := by
  intro s t h hidle hquiet
  cases step_effect h with
  | quiet r n => rfl
  | overrun ev r he hwrite hreset hbusy => exact absurd (hidle.symm.trans hbusy) (by decide)
  | accepted ev v r he hcmd hreset _ =>
    obtain ⟨rest, hinbox⟩ := inbox_eq_of_head? he
    obtain ⟨hnot, _⟩ := hquiet ev rest hinbox
    exact absurd (hnot.symm.trans hcmd) (by decide)
  | stored reg v r hreset _ => exact storeReg_keeps_status _ reg v
  | completed i _ hturn hbusy hfetch hexec => exact absurd (hidle.symm.trans hbusy) (by decide)
  | illegal r hturn hbusy hfetch => exact absurd (hidle.symm.trans hbusy) (by decide)
  | resetAsserted he =>
    obtain ⟨rest, hinbox⟩ := inbox_eq_of_head? he
    obtain ⟨_, hnot⟩ := hquiet _ rest hinbox
    exact absurd rfl hnot
  | resetReleased => rfl

/-- The engine's turn comes with an empty list, or by its own event. -/
theorem inbox_of_engineTurn {s : State} (h : s.inbox.head? = none ∨ s.inbox.head? = some .engine) :
    s.inbox = [] ∨ ∃ rest, s.inbox = .engine :: rest :=
  h.imp List.head?_eq_none_iff.mp inbox_eq_of_head?

/-- Settles O60: the effects that clear `BUSY` are the two completions and reset. -/
theorem busyFallsOnlyAtCompletion : Obligations.BusyFallsOnlyAtCompletion := by
  intro s t h hbusy hidle
  cases step_effect h with
  | quiet r n => exact absurd (hbusy.symm.trans hidle) (by decide)
  | overrun ev r he hwrite hreset _ => exact absurd (hbusy.symm.trans hidle) (by decide)
  | accepted ev v r he hcmd hreset _ => exact absurd hidle (by simp)
  | stored reg v r hreset hfree => exact absurd (hbusy.symm.trans hfree) (by decide)
  | completed i _ hturn _ hfetch hexec =>
    exact .inl ⟨inbox_of_engineTurn hturn, (stepEngine_ok hfetch).trans hexec⟩
  | illegal r hturn _ hfetch => exact .inl ⟨inbox_of_engineTurn hturn, stepEngine_illegal hfetch⟩
  | resetAsserted he =>
    obtain ⟨rest, hinbox⟩ := inbox_eq_of_head? he
    exact .inr ⟨rest, hinbox, by rw [hinbox]; rfl⟩
  | resetReleased => exact absurd (hbusy.symm.trans hidle) (by decide)

end Sys2Proof.Machine
end

section
/-!
PROOFS, a command's life (spec/60_exceptions.md R200, R201): acceptance, the engine's turn, and that a busy core ends.
-/

namespace Sys2Proof.Machine

/-- A pending engine turn is consumed, and an empty list is the engine's turn as well (R201). -/
theorem step_engine_busy {s : State} {rest : List Event} (h : s.inbox = .engine :: rest) (hbusy : s.status.busy = true) :
    step s = stepEngine { s with inbox := rest } :=
  (step_cons h).trans (engineTurn_busy (s := { s with inbox := rest }) hbusy)

theorem step_nil_busy {s : State} (h : s.inbox = []) (hbusy : s.status.busy = true) : step s = stepEngine s :=
  (step_nil h).trans (engineTurn_busy hbusy)

/-- The word `withFetchWord` accepts. -/
theorem ofNat_encode_toNat (i : Instr) : BitVec.ofNat 32 ((encode i).toNat % 2 ^ 32) = encode i := by
  cases i <;> rfl

theorem stepEngine_accept_encode (i : Instr) (s : State) : stepEngine (accept (encode i) s) = runCommand i s :=
  stepEngine_ok (decode_encode i)

/-- The step after `withFetchWord` is the engine's turn, whether events are pending or not. -/
theorem step_withFetchWord (i : Instr) (s : State) :
    step (s.withFetchWord 32 (encode i).toNat) = runCommand i s := by
  rw [← stepEngine_accept_encode, State.withFetchWord, ofNat_encode_toNat]
  cases hinbox : s.inbox with
  | nil =>
    have hsame : ({ accept (encode i) s with inbox := [] } : State) = accept (encode i) s := by rw [← hinbox]; rfl
    exact (step_nil_busy rfl rfl).trans (congrArg stepEngine hsame)
  | cons e rest =>
    have hsame : ({ accept (encode i) s with inbox := e :: rest } : State) = accept (encode i) s := by
      rw [← hinbox]; rfl
    exact (step_engine_busy rfl rfl).trans (congrArg stepEngine hsame)

/-- Settles O5: the engine's turn runs what the word in flight decodes to. -/
theorem stepRunsDecodedCommand : Obligations.StepRunsDecodedCommand := by
  intro s i
  refine ⟨fun hbusy hdecode hinbox => ?_, fun hbusy hdecode rest hinbox => ?_, step_withFetchWord i s⟩
  · exact (step_nil_busy hinbox hbusy).trans (stepEngine_ok hdecode)
  · exact (step_engine_busy hinbox hbusy).trans (stepEngine_ok hdecode)

/-- Settles O6: the three cases are refusal, drop and acceptance of `hostWrite`, at the offset of `CMD`. -/
theorem commandAcceptance : Obligations.CommandAcceptance := by
  intro s off width v rest hinbox
  rw [step_cons hinbox]
  refine ⟨fun hbad => ?_, fun hoff hwidth hreset hbusy => ?_, fun hoff hwidth hreset hidle => ?_⟩
  · have hrefused : accessOk off width = false := (accessOk_eq_false_iff off width).mpr hbad
    exact congrArg Host.Outcome.next (hostWrite_of_accessOk_eq_false hrefused v { s with inbox := rest })
  · subst hoff hwidth
    exact congrArg Host.Outcome.next (hostWrite_busy (s := { s with inbox := rest }) v rfl hreset hbusy)
  · subst hoff hwidth
    exact congrArg Host.Outcome.next (serveWrite_cmd_idle (s := { s with inbox := rest }) v hreset hidle)

theorem engineTurn_idle_after {s t : State} (h : engineTurn s = .next t) : t.status.busy = false := by
  rcases engineTurn_cases h with ⟨hidle, rfl⟩ | ⟨_, i, _, hexec⟩ | ⟨_, _, rfl⟩
  · exact hidle
  · obtain ⟨hidle, _⟩ := exec_busy_ovr_keyValid hexec
    exact hidle
  · rfl

/-- A step consumes the first pending event, and adds none. -/
theorem step_inbox {s t : State} (h : step s = .next t) : t.inbox = s.inbox.tail := by
  cases step_effect h with
  | stored reg v r hreset hidle => simp
  | completed i _ hturn hbusy hfetch hexec =>
    obtain ⟨_, _, _, hinbox, _⟩ := exec_engineFieldsKept hexec
    exact hinbox
  | _ => rfl

/-- Settles O10, by induction on the pending events: with none left the engine takes its turn. -/
theorem busyEnds : Obligations.BusyEnds := by
  intro s hbusy
  induction hinbox : s.inbox generalizing s with
  | nil =>
    obtain ⟨t, h⟩ := step_answers s
    have hidle : t.status.busy = false := engineTurn_idle_after (by rwa [step_nil hinbox] at h)
    exact ⟨1, t, by simp, runSteps_succ h, hidle⟩
  | cons e rest ih =>
    obtain ⟨t, h⟩ := step_answers s
    cases htbusy : t.status.busy with
    | false => exact ⟨1, t, by simp, runSteps_succ h, htbusy⟩
    | true =>
      obtain ⟨n, u, hn, hrun, hidle⟩ := ih t htbusy (by rw [step_inbox h, hinbox, List.tail_cons])
      exact ⟨n + 1, u, by simpa using hn, (runSteps_succ h).trans hrun, hidle⟩

end Sys2Proof.Machine
end

section
/-!
PROOFS, commands over the bus (spec/70_reset_and_hazards.md R231, R232): the transactions that arrive while a command runs
change only fields that no completion reads.
-/

namespace Sys2Proof.Machine

/-- `s` with other values in the fields that transactions change while a command runs: the pending events, the bus response,
the number of draws, and `OVR`. -/
def State.withHostFields (s : State) (es : List Event) (r : Option Reply) (n : Nat) (o : Bool) : State :=
  { s with inbox := es, reply := r, draws := n, status := { s.status with ovr := o } }

theorem stepEngine_withHostFields {s t : State} (es : List Event) (r : Option Reply) (n : Nat) (o : Bool)
    (h : stepEngine s = .next t) : stepEngine (s.withHostFields es r n o) = .next (t.withHostFields es r n o) :=
  stepEngine_hostFields r n o es h

/-- A host transaction at a busy core leaves only its response, a draw and `OVR` (R231, R232). -/
theorem step_transaction_busy {s : State} {e : Event} {rest : List Event} (hinbox : s.inbox = e :: rest)
    (he : isTransaction e = true) (hbusy : s.status.busy = true) :
    ∃ r n o, step s = .next (s.withHostFields rest r n o) := by
  rw [step_cons hinbox]
  cases e with
  | write a width v =>
    rcases serveWrite_effect a width v { s with inbox := rest } with ⟨r, heq⟩ | ⟨_, _, _, r, heq⟩ |
      ⟨_, hidle, _⟩ | ⟨_, hidle, _⟩
    · exact ⟨r, s.draws, s.status.ovr, congrArg Host.Outcome.next heq⟩
    · exact ⟨r, s.draws, true, congrArg Host.Outcome.next heq⟩
    · exact absurd (hbusy.symm.trans hidle) (by decide)
    · exact absurd (hbusy.symm.trans hidle) (by decide)
  | read a width =>
    obtain ⟨r, n, heq⟩ := serveRead_eq a width { s with inbox := rest }
    exact ⟨r, n, s.status.ovr, congrArg Host.Outcome.next heq⟩
  | engine | resetAssert | resetRelease => cases he

/-- The same for a list of transactions, with anything pending after them. -/
theorem runSteps_transactions_busy {s : State} {es rest : List Event} (hes : ∀ e ∈ es, isTransaction e = true)
    (hbusy : s.status.busy = true) (m : Nat) :
    ∃ r n o, runSteps (es.length + m) { s with inbox := es ++ rest } = runSteps m (s.withHostFields rest r n o) := by
  induction es generalizing s with
  | nil =>
    rw [List.length_nil, Nat.zero_add, List.nil_append]
    exact ⟨s.reply, s.draws, s.status.ovr, rfl⟩
  | cons e es ih =>
    obtain ⟨r, n, o, hstep⟩ := step_transaction_busy (s := { s with inbox := e :: (es ++ rest) }) rfl
      (hes e List.mem_cons_self) hbusy
    obtain ⟨r', n', o', hrun⟩ := ih (s := s.withHostFields [] r n o) (fun e he => hes e (List.mem_cons_of_mem _ he)) hbusy
    refine ⟨r', n', o', ?_⟩
    rw [List.length_cons, Nat.add_right_comm, List.cons_append, runSteps_succ hstep]
    exact hrun

/-- A command in flight completes after the transactions as it would have completed at once. -/
theorem runSteps_completion {s t : State} {es : List Event} (rest : List Event) (h : stepEngine s = .next t)
    (hes : ∀ e ∈ es, isTransaction e = true) (hbusy : s.status.busy = true) (m : Nat) :
    ∃ r n o, runSteps (es.length + (m + 1)) { s with inbox := es ++ .engine :: rest } =
      runSteps m (t.withHostFields rest r n o) := by
  obtain ⟨r, n, o, hrun⟩ := runSteps_transactions_busy (rest := .engine :: rest) hes hbusy (m + 1)
  refine ⟨r, n, o, hrun.trans (runSteps_succ ?_)⟩
  have hturn := step_engine_busy (s := s.withHostFields (.engine :: rest) r n o) rfl hbusy
  have hdone := stepEngine_withHostFields rest r n o h
  exact hturn.trans hdone

/-- Settles O9: the command completes after the transactions, up to the fields they change. -/
theorem busyTransactionsDoNotDisturb : Obligations.BusyTransactionsDoNotDisturb := by
  intro s es hbusy _ hes
  have hturn : engineTurn { s with inbox := [] } = stepEngine { s with inbox := [] } := engineTurn_busy hbusy
  obtain ⟨t, h⟩ := engineTurn_answers { s with inbox := [] }
  obtain ⟨r, n, o, hrun⟩ := runSteps_completion [] (hturn.symm.trans h) hes hbusy 0
  have hinbox : t.inbox = [] := step_inbox (s := { s with inbox := [] }) h
  refine ⟨t, t.withHostFields [] r n o, h, hrun, ?_⟩
  rw [← hinbox]
  rfl

/-- A whole command over the bus: its word is written to `CMD`, transactions arrive while it runs, then the engine's turn
comes. -/
theorem runSteps_command {s t : State} {i : Instr} {es : List Event} (rest : List Event) (h : runCommand i s = .next t)
    (hidle : s.status.busy = false) (hreset : s.resetHeld = false) (hes : ∀ e ∈ es, isTransaction e = true) (m : Nat) :
    ∃ r n o, runSteps (es.length + (m + 1) + 1) { s with inbox := cmdWrite (encode i) :: (es ++ .engine :: rest) } =
      runSteps m (t.withHostFields rest r n o) := by
  have haccept : step { s with inbox := cmdWrite (encode i) :: (es ++ .engine :: rest) } =
      .next (answer none false (accept (encode i) { s with inbox := es ++ .engine :: rest })) :=
    congrArg Host.Outcome.next (serveWrite_cmd_idle (s := { s with inbox := es ++ .engine :: rest }) _ hreset hidle)
  have hcomplete : stepEngine (accept (encode i) s) = .next t := (stepEngine_accept_encode i s).trans h
  have hanswered := stepEngine_withHostFields s.inbox (some ⟨none, false⟩) s.draws false hcomplete
  obtain ⟨r, n, o, hrun⟩ := runSteps_completion rest hanswered hes rfl m
  exact ⟨r, n, o, (runSteps_succ haccept).trans hrun⟩

end Sys2Proof.Machine
end

section
/-!
PROOFS, the cipher (spec/40_block_transform.md section 2): the rounds one by one (R104, R105), ENC and DEC, and that the two
functions are inverse (R111).
-/

namespace Sys2Proof.Machine

theorem feistelRounds_take_succ (s : SBoxes) (ks : List Word) (x : Word × Word) (i : Nat) (h : i < ks.length) :
    feistelRounds s (ks.take (i + 1)) x = feistelRound s (feistelRounds s (ks.take i) x) ks[i] := by
  rw [feistelRounds, List.take_succ_eq_append_getElem h, List.foldl_append]
  rfl

/-- The halves after each of sixteen rounds, as R104 and R105 count them. -/
theorem feistelRounds_trace (s : SBoxes) (ks : List Word) (hlen : ks.length = 16) (x : Word × Word) :
    ∃ l r : Nat → Word, (l 0, r 0) = x ∧
      (∀ i : Fin 16, r (i.val + 1) = l i.val ^^^ ks[i.val] ∧
        l (i.val + 1) = r i.val ^^^ roundF s (l i.val ^^^ ks[i.val])) ∧
      feistelRounds s ks x = (l 16, r 16) := by
  refine ⟨fun n => (feistelRounds s (ks.take n) x).1, fun n => (feistelRounds s (ks.take n) x).2, rfl, fun i => ?_, ?_⟩
  · simp only [feistelRounds_take_succ s ks x i.val (by omega), feistelRound, and_self]
  · simp only [List.take_of_length_le hlen.le]

theorem encRoundWords_length (p : PArray) : (encRoundWords p).length = 16 := by
  simp [encRoundWords]

theorem encRoundWords_getElem (p : PArray) (i : Nat) (h : i < (encRoundWords p).length) :
    (encRoundWords p)[i] = p[i]'(by rw [encRoundWords_length] at h; omega) := by
  simp [encRoundWords]

theorem decRoundWords_length (p : PArray) : (decRoundWords p).length = 16 := by
  simp [decRoundWords]

theorem decRoundWords_getElem (p : PArray) (i : Nat) (h : i < (decRoundWords p).length) :
    (decRoundWords p)[i] = p[17 - i] := by
  have hi : i < 16 := by rwa [decRoundWords_length] at h
  simp only [decRoundWords, List.getElem_reverse, List.getElem_drop, Vector.getElem_toList, List.length_drop,
    Vector.length_toList]
  congr 1
  omega

/-- Settles O22: the halves of R104 are those of the rounds over `P[0..15]`, and a block is its two halves. -/
theorem encResult : Obligations.EncResult := by
  refine ⟨fun _ _ => rfl, fun k x => ?_, fun s hkey => ⟨_, rfl, halvesOfBlock_blockOfHalves _, exec_enc hkey⟩⟩
  obtain ⟨l, r, hstart, hround, hend⟩ := feistelRounds_trace k.s _ (encRoundWords_length k.p) x
  exact ⟨l, r, hstart, by simpa only [encRoundWords_getElem] using hround, by rw [bfEncLR, hend, whiten]⟩

/-- Settles O23: as for ENC, over `P[17]` down to `P[2]`. -/
theorem decResult : Obligations.DecResult := by
  refine ⟨fun k x => ?_, fun s hkey => ⟨_, rfl, halvesOfBlock_blockOfHalves _, exec_dec hkey⟩⟩
  obtain ⟨l, r, hstart, hround, hend⟩ := feistelRounds_trace k.s _ (decRoundWords_length k.p) x
  exact ⟨l, r, hstart, by simpa only [decRoundWords_getElem] using hround, by rw [bfDecLR, hend, whiten]⟩

/-- The round words of R104 and R105 written out. -/
theorem encRoundWords_eq (p : PArray) : encRoundWords p =
    [p[0], p[1], p[2], p[3], p[4], p[5], p[6], p[7], p[8], p[9], p[10], p[11], p[12], p[13], p[14], p[15]] := by
  rw [encRoundWords, pArray_toList]
  rfl

theorem decRoundWords_eq (p : PArray) : decRoundWords p =
    [p[17], p[16], p[15], p[14], p[13], p[12], p[11], p[10], p[9], p[8], p[7], p[6], p[5], p[4], p[3], p[2]] := by
  rw [decRoundWords, pArray_toList]
  rfl

/-- R111 on halves: the first round of the inverse undoes the last whitening, each further one a round, and its own whitening
the first round. -/
theorem bfDecLR_bfEncLR (k : Schedule) (x : Word × Word) : bfDecLR k (bfEncLR k x) = x := by
  simp only [bfDecLR, bfEncLR, encRoundWords_eq, decRoundWords_eq, feistelRounds, List.foldl_cons, List.foldl_nil,
    feistelRound_whiten, feistelRound_halfUndone, whiten_halfUndone]

theorem bfEncLR_bfDecLR (k : Schedule) (x : Word × Word) : bfEncLR k (bfDecLR k x) = x := by
  simp only [bfDecLR, bfEncLR, encRoundWords_eq, decRoundWords_eq, feistelRounds, List.foldl_cons, List.foldl_nil,
    feistelRound_whiten, feistelRound_halfUndone, whiten_halfUndone]

theorem decryptBlock_encryptBlock (k : Schedule) (b : Block) : decryptBlock k (encryptBlock k b) = b := by
  rw [decryptBlock, encryptBlock, halvesOfBlock_blockOfHalves, bfDecLR_bfEncLR, blockOfHalves_halvesOfBlock]

theorem encryptBlock_decryptBlock (k : Schedule) (b : Block) : encryptBlock k (decryptBlock k b) = b := by
  rw [encryptBlock, decryptBlock, halvesOfBlock_blockOfHalves, bfEncLR_bfDecLR, blockOfHalves_halvesOfBlock]

theorem encryptBlock_bijective (k : Schedule) : Function.Bijective (encryptBlock k) :=
  Function.bijective_iff_has_inverse.mpr ⟨decryptBlock k, decryptBlock_encryptBlock k, encryptBlock_decryptBlock k⟩

/-- Settles O29: the inverse laws on halves, carried to blocks. -/
theorem cipherIsInvertible : Obligations.CipherIsInvertible :=
  fun k => ⟨decryptBlock_encryptBlock k, encryptBlock_decryptBlock k, encryptBlock_bijective k⟩

theorem toBytes_bijective : Function.Bijective toBytes :=
  Function.bijective_iff_has_inverse.mpr ⟨fromBytes, fromBytes_toBytes, toBytes_fromBytes⟩

theorem fromBytes_bijective : Function.Bijective fromBytes :=
  Function.bijective_iff_has_inverse.mpr ⟨toBytes, toBytes_fromBytes, fromBytes_toBytes⟩

/-- Settles O36: the Public ID is composed of three bijections. -/
theorem publicIdIsBijection : Obligations.PublicIdIsBijection :=
  fun k => fromBytes_bijective.comp ((encryptBlock_bijective k).comp toBytes_bijective)

end Sys2Proof.Machine
end

section
/-!
PROOFS, the key schedule (spec/40_block_transform.md R103): the key mixed into P, and the 521 chained pairs as one sequence.
-/

namespace Sys2Proof.Machine

/-- `n` steps of `g`, the step `i` from the state after the steps before it. -/
def iterSteps {β : Type} (g : Nat → β → β) (b : β) (n : Nat) : β :=
  match n with
  | 0 => b
  | n + 1 => g n (iterSteps g b n)

/-- A loop over `0, …, n-1` is the stretch of `iterSteps` that its body runs as the steps `a, …, a+n-1`. -/
theorem foldl_finRange_eq_iterSteps {β : Type} {n : Nat} (f : β → Fin n → β) (g : Nat → β → β) (b : β) (a : Nat)
    (h : ∀ (i : Fin n) (x : β), g (a + i.val) x = f x i) :
    (List.finRange n).foldl f (iterSteps g b a) = iterSteps g b (a + n) := by
  induction n with
  | zero => rfl
  | succ n ih =>
    rw [List.finRange_succ_last, List.foldl_append, List.foldl_map,
      ih (fun x i => f x i.castSucc) fun i x => h i.castSucc x]
    exact (h (Fin.last n) _).symm

/-- A loop over `0, …, n-1` keeps a property of the number of steps done and the state. -/
theorem foldl_finRange_induction {β : Type} {n : Nat} (f : β → Fin n → β) (b : β) (Inv : Nat → β → Prop) (h0 : Inv 0 b)
    (hstep : ∀ (i : Fin n) (x : β), Inv i.val x → Inv (i.val + 1) (f x i)) : Inv n ((List.finRange n).foldl f b) := by
  induction n with
  | zero => exact h0
  | succ n ih =>
    rw [List.finRange_succ_last, List.foldl_append, List.foldl_map]
    exact hstep (Fin.last n) _ (ih (fun x i => f x i.castSucc) fun i x hx => hstep i.castSucc x hx)

/-- The word of the cycled key that R103 XORs into `P[i]`. -/
def cycledKeyWord (key : List Byte) (i : Nat) : Word :=
  cycledKeyByte key (4 * i) ++ cycledKeyByte key (4 * i + 1) ++ cycledKeyByte key (4 * i + 2) ++
    cycledKeyByte key (4 * i + 3)

theorem nextKeyWord_cycled (key : List Byte) (i : Nat) :
    nextKeyWord key (4 * i % key.length) = (cycledKeyWord key i, 4 * (i + 1) % key.length) :=
  nextKeyWord_eq key (4 * i)

/-- The first loop of R103 after `n` of its steps, with the index of the next key byte. -/
def KeyMixed (key : List Byte) (p : PArray) (n : Nat) (x : PArray × Nat) : Prop :=
  x.2 = 4 * n % key.length ∧
    ∀ j : Fin 18, x.1[j] = if j.val < n then p[j] ^^^ cycledKeyWord key j.val else p[j]

/-- The body of the first loop of R103. -/
def mixKeyStep (key : List Byte) (x : PArray × Nat) (i : Fin 18) : PArray × Nat :=
  (x.1.set i (x.1[i] ^^^ (nextKeyWord key x.2).1), (nextKeyWord key x.2).2)

theorem mixKey_eq (key : List Byte) (p : PArray) :
    mixKey key p = ((List.finRange 18).foldl (mixKeyStep key) (p, 0)).1 := rfl

theorem mixKeyStep_keyMixed {key : List Byte} {p : PArray} (n : Fin 18) (x : PArray × Nat)
    (h : KeyMixed key p n.val x) : KeyMixed key p (n.val + 1) (mixKeyStep key x n) := by
  obtain ⟨q, j⟩ := x
  obtain ⟨rfl, hq⟩ := h
  simp only [mixKeyStep, nextKeyWord_cycled]
  refine ⟨rfl, fun m => ?_⟩
  refine (Vector.getElem_set n.isLt m.isLt).trans ?_
  by_cases hmn : n.val = m.val
  · obtain rfl : n = m := Fin.ext hmn
    simpa using hq n
  · rw [if_neg hmn]
    have hlt : m.val < n.val + 1 ↔ m.val < n.val := by omega
    simp only [hlt]
    exact hq m

theorem mixKey_getElem (key : List Byte) (p : PArray) (i : Fin 18) :
    (mixKey key p)[i] = p[i] ^^^ cycledKeyWord key i.val := by
  have hmixed : KeyMixed key p 18 ((List.finRange 18).foldl (mixKeyStep key) (p, 0)) :=
    foldl_finRange_induction _ _ (KeyMixed key p) ⟨by simp, fun j => by simp⟩ mixKeyStep_keyMixed
  obtain ⟨_, hp⟩ := hmixed
  rw [mixKey_eq]
  exact (hp i).trans (if_pos i.isLt)

/-- Step `n` of the 521 that fill the schedule: nine of the P phase, then 128 for each S-box. -/
def scheduleStep (n : Nat) (x : Schedule × (Word × Word)) : Schedule × (Word × Word) :=
  if h : n < 9 then fillPStep x ⟨n, h⟩
  else if h' : n < 521 then fillSStep ⟨(n - 9) / 128, by omega⟩ x ⟨(n - 9) % 128, by omega⟩
  else x

theorem scheduleStep_fillP (i : Fin 9) (x : Schedule × (Word × Word)) : scheduleStep (0 + i.val) x = fillPStep x i := by
  simp [scheduleStep]

theorem scheduleStep_fillS (m : Fin 4) (i : Fin 128) (x : Schedule × (Word × Word)) :
    scheduleStep (9 + 128 * m.val + i.val) x = fillSStep m x i := by
  have hbox : (9 + 128 * m.val + i.val - 9) / 128 = m.val := by omega
  have hpair : (9 + 128 * m.val + i.val - 9) % 128 = i.val := by omega
  have hP : ¬ 9 + 128 * m.val + i.val < 9 := by omega
  have hS : 9 + 128 * m.val + i.val < 521 := by omega
  simp only [scheduleStep, dif_neg hP, dif_pos hS, hbox, hpair]

/-- Each step is one of the two phases' steps. -/
theorem scheduleStep_cases {n : Nat} (h : n < 521) :
    (∃ i : Fin 9, n = 0 + i.val) ∨ (∃ (m : Fin 4) (i : Fin 128), n = 9 + 128 * m.val + i.val) := by
  by_cases hP : n < 9
  · exact .inl ⟨⟨n, hP⟩, (Nat.zero_add n).symm⟩
  · exact .inr ⟨⟨(n - 9) / 128, by omega⟩, ⟨(n - 9) % 128, by omega⟩, by simp only; omega⟩

/-- Each step encrypts the pair before it and stores the result in the next two words. -/
theorem scheduleStep_pairStored {n : Nat} (h : n < 521) (x : Schedule × (Word × Word)) :
    (scheduleStep n x).2 = bfEncLR x.1 x.2 ∧ pairStored n (scheduleStep n x).2 x.1 (scheduleStep n x).1 := by
  rcases scheduleStep_cases h with ⟨i, rfl⟩ | ⟨m, i, rfl⟩
  · rw [scheduleStep_fillP, Nat.zero_add]
    exact ⟨rfl, fillPStep_pairStored x i⟩
  · rw [scheduleStep_fillS]
    exact ⟨rfl, fillSStep_pairStored m x i⟩

/-- The two phases of R103 are the 521 steps one after another. -/
theorem fillS_fillP (k : Schedule) : fillS (fillP k) = iterSteps scheduleStep (k, (0, 0)) 521 := by
  have hP : fillP k = iterSteps scheduleStep (k, (0, 0)) (9 + 128 * 0) :=
    foldl_finRange_eq_iterSteps fillPStep scheduleStep (k, (0, 0)) 0 scheduleStep_fillP
  rw [hP, fillS]
  refine foldl_finRange_induction _ _ (fun m y => y = iterSteps scheduleStep (k, (0, 0)) (9 + 128 * m)) rfl ?_
  rintro m _ rfl
  exact foldl_finRange_eq_iterSteps (fillSStep m) scheduleStep _ _ (scheduleStep_fillS m)

/-- The key schedule before its first pair. -/
def mixedSchedule (key : List Byte) : Schedule := { p := mixKey key pInit, s := sInit }

theorem bfSchedule_eq (key : List Byte) :
    bfSchedule key = (iterSteps scheduleStep (mixedSchedule key, (0, 0)) 521).1 :=
  congrArg Prod.fst (fillS_fillP (mixedSchedule key))

/-- Settles O30: the sequence is `iterSteps scheduleStep`, whose step 521 the two loops end with. -/
theorem scheduleConstruction : Obligations.ScheduleConstruction := by
  intro key _
  refine ⟨mixKey_getElem key pInit, fun n => (iterSteps scheduleStep (mixedSchedule key, (0, 0)) n).1,
    fun n => (iterSteps scheduleStep (mixedSchedule key, (0, 0)) n).2, rfl, rfl, fun n hn => ?_, bfSchedule_eq key⟩
  exact scheduleStep_pairStored hn (iterSteps scheduleStep (mixedSchedule key, (0, 0)) n)

/-- A key written twice cycles as the key does. -/
theorem cycledKeyByte_append_self {key : List Byte} (h : key ≠ []) (j : Nat) :
    cycledKeyByte (key ++ key) j = cycledKeyByte key j := by
  have hpos : 0 < key.length := List.length_pos_iff.mpr h
  have hlt : j % (key.length + key.length) < key.length + key.length := Nat.mod_lt _ (by omega)
  have hmod : j % (key.length + key.length) % key.length = j % key.length :=
    Nat.mod_mod_of_dvd j (Nat.dvd_add_self_left.mpr (Nat.dvd_refl _))
  simp only [cycledKeyByte, List.length_append, List.getD_eq_getElem?_getD]
  rw [← hmod]
  generalize j % (key.length + key.length) = r at hlt
  by_cases hfirst : r < key.length
  · rw [List.getElem?_append_left hfirst, Nat.mod_eq_of_lt hfirst]
  · rw [List.getElem?_append_right (by omega), Nat.mod_eq_sub_mod (by omega), Nat.mod_eq_of_lt (by omega)]

/-- Settles O31: the key enters the schedule by its cycled bytes alone. -/
theorem repeatedKeySameSchedule : Obligations.RepeatedKeySameSchedule := by
  intro key hkey
  have hmix : mixKey (key ++ key) pInit = mixKey key pInit := by
    apply Vector.ext
    intro i hi
    have hword : cycledKeyWord (key ++ key) i = cycledKeyWord key i := by
      simp only [cycledKeyWord, cycledKeyByte_append_self hkey]
    exact (mixKey_getElem (key ++ key) pInit ⟨i, hi⟩).trans (hword ▸ (mixKey_getElem key pInit ⟨i, hi⟩).symm)
  rw [bfSchedule, hmix, ← bfSchedule]

end Sys2Proof.Machine
end

section
/-!
PROOFS, the text codec (spec/43_text_codec.md R151, R152): the 65-bit string cut into groups and into bytes, and that Decode
and Encode are inverse (R157).
-/

namespace Sys2Proof.Machine

open Sys2Proof.Laws

/-- Thirteen groups as one 65-bit string, the first highest (R151, R152). -/
def bitsOfGroups (g : Fin 13 → BitVec 5) : BitVec 65 :=
  g 0 ++ g 1 ++ g 2 ++ g 3 ++ g 4 ++ g 5 ++ g 6 ++ g 7 ++ g 8 ++ g 9 ++ g 10 ++ g 11 ++ g 12

theorem bitsOfText_eq (x : Text) : bitsOfText x = bitsOfGroups (textGroup x) := rfl

/-- Bit `k` of the string lies in the group `k / 5`, counted from the last. -/
theorem bitsOfGroups_getLsbD (g : Fin 13 → BitVec 5) {k : Nat} (hk : k < 65) :
    (bitsOfGroups g).getLsbD k = (g ⟨12 - k / 5, by omega⟩).getLsbD (k % 5) := by
  rw [bitsOfGroups]
  interval_cases k <;>
    simp [getElem_append_60_5, getElem_append_55_5, getElem_append_50_5, getElem_append_45_5, getElem_append_40_5,
      getElem_append_35_5, getElem_append_30_5, getElem_append_25_5, getElem_append_20_5, getElem_append_15_5,
      getElem_append_10_5, getElem_append_5_5]

/-- Cutting the string gives the groups back. -/
theorem groupOf_bitsOfGroups (g : Fin 13 → BitVec 5) (j : Fin 13) : groupOf (bitsOfGroups g) j.val = g j := by
  apply BitVec.eq_of_getLsbD_eq
  intro k hk
  have hgroup : 12 - (60 - 5 * j.val + k) / 5 = j.val := by omega
  have hbit : (60 - 5 * j.val + k) % 5 = k := by omega
  rw [groupOf, BitVec.getLsbD_extractLsb', decide_eq_true hk, Bool.true_and, bitsOfGroups_getLsbD g (by omega)]
  simp only [hgroup, hbit, Fin.eta]

/-- A 65-bit string is its thirteen groups. -/
theorem bits_ext {v w : BitVec 65} (h : ∀ j : Fin 13, groupOf v j.val = groupOf w j.val) : v = w := by
  apply BitVec.eq_of_getLsbD_eq
  intro k hk
  have hgroup := congrArg (fun g => g.getLsbD (k % 5)) (h ⟨12 - k / 5, by omega⟩)
  have hpos : 60 - 5 * (12 - k / 5) + k % 5 = k := by omega
  simpa [groupOf, hpos, Nat.mod_lt] using hgroup

theorem bitsOfGroups_groupOf (v : BitVec 65) : bitsOfGroups (fun j => groupOf v j.val) = v :=
  bits_ext (groupOf_bitsOfGroups _)

/-- Above the pad bit, bit `k` of the string lies in the byte `(k - 1) / 8`, counted from the last. -/
theorem bitsOfBlock_getLsbD (b : Block) {k : Nat} (hpad : 0 < k) (hk : k < 65) :
    (bitsOfBlock b).getLsbD k = (b[7 - (k - 1) / 8]).getLsbD ((k - 1) % 8) := by
  rw [bitsOfBlock, getLsbD_append_64_1, if_neg (by omega)]
  interval_cases k <;>
    simp [getElem_append_56_8, getElem_append_48_8, getElem_append_40_8, getElem_append_32_8, getElem_append_24_8,
      getElem_append_16_8, getElem_append_8_8]

theorem blockOfBits_getElem (v : BitVec 65) {i : Nat} (hi : i < 8) :
    (blockOfBits v)[i] = v.extractLsb' (57 - 8 * i) 8 := by
  interval_cases i <;> rfl

/-- Cutting the string into bytes gives the block back. -/
theorem blockOfBits_bitsOfBlock (b : Block) : blockOfBits (bitsOfBlock b) = b := by
  apply Vector.ext
  intro i hi
  apply BitVec.eq_of_getLsbD_eq
  intro k hk
  have hbyte : 7 - (57 - 8 * i + k - 1) / 8 = i := by omega
  have hbit : (57 - 8 * i + k - 1) % 8 = k := by omega
  rw [blockOfBits_getElem _ hi, BitVec.getLsbD_extractLsb', decide_eq_true hk, Bool.true_and,
    bitsOfBlock_getLsbD b (by omega) (by omega)]
  simp only [hbyte, hbit]

theorem bitsOfBlock_padBit (b : Block) : (bitsOfBlock b).getLsbD 0 = false := by
  rw [bitsOfBlock, getLsbD_append_64_1]
  rfl

/-- A string with the pad bit 0 is the string of its block. -/
theorem bitsOfBlock_blockOfBits {v : BitVec 65} (h : v.getLsbD 0 = false) : bitsOfBlock (blockOfBits v) = v := by
  apply BitVec.eq_of_getLsbD_eq
  intro k hk
  rcases Nat.eq_zero_or_pos k with rfl | hpad
  · exact (bitsOfBlock_padBit _).trans h.symm
  · have hpos : 57 - 8 * (7 - (k - 1) / 8) + (k - 1) % 8 = k := by omega
    have hbit : (k - 1) % 8 < 8 := Nat.mod_lt _ (by decide)
    rw [bitsOfBlock_getLsbD _ hpad hk, blockOfBits_getElem _ (by omega), BitVec.getLsbD_extractLsb',
      decide_eq_true hbit, Bool.true_and, hpos]

/-- The groups of R151's byte table: `g0 = b0[7:3]`, `g1 = {b0[2:0], b1[7:6]}`, and so on. -/
def groupsByByte (b : Block) : Vector (BitVec 5) 13 :=
  #v[b[0].extractLsb' 3 5, b[0].extractLsb' 0 3 ++ b[1].extractLsb' 6 2, b[1].extractLsb' 1 5,
     b[1].extractLsb' 0 1 ++ b[2].extractLsb' 4 4, b[2].extractLsb' 0 4 ++ b[3].extractLsb' 7 1, b[3].extractLsb' 2 5,
     b[3].extractLsb' 0 2 ++ b[4].extractLsb' 5 3, b[4].extractLsb' 0 5, b[5].extractLsb' 3 5,
     b[5].extractLsb' 0 3 ++ b[6].extractLsb' 6 2, b[6].extractLsb' 1 5,
     b[6].extractLsb' 0 1 ++ b[7].extractLsb' 4 4, b[7].extractLsb' 0 4 ++ 0#1]

theorem encodedTextByByte_eq_map (b : Block) : encodedTextByByte b = (groupsByByte b).map symbol := by
  simp [encodedTextByByte, groupsByByte]

theorem groupsByByte_getElem (b : Block) (j : Fin 13) : (groupsByByte b)[j] = groupOf (bitsOfBlock b) j.val := by
  apply BitVec.eq_of_getLsbD_eq
  intro k hk
  rw [groupOf, BitVec.getLsbD_extractLsb', decide_eq_true hk, Bool.true_and]
  rcases Nat.eq_zero_or_pos (60 - 5 * j.val + k) with hzero | hpad
  · obtain ⟨rfl, rfl⟩ : j = 12 ∧ k = 0 := ⟨Fin.ext (show j.val = 12 by omega), by omega⟩
    rw [hzero, bitsOfBlock_padBit]
    exact getLsbD_append_4_1 _ _ 0
  · rw [bitsOfBlock_getLsbD b hpad (by omega), groupsByByte]
    fin_cases j <;> interval_cases k <;>
      simp [getElem_append_3_2, getElem_append_1_4, getElem_append_4_1, getElem_append_2_3] at hpad ⊢

/-- R151's two tables agree. -/
theorem encodedTextByByte_eq (b : Block) : encodedTextByByte b = encodeText b := by
  rw [encodedTextByByte_eq_map]
  apply Vector.ext
  intro j hj
  rw [Vector.getElem_map, encodeText, Vector.getElem_ofFn]
  exact congrArg symbol (groupsByByte_getElem b ⟨j, hj⟩)

/-- R152's two forms agree. -/
theorem decodedBlockByByte_eq (g : Vector (BitVec 5) 13) :
    decodedBlockByByte g = blockOfBits (bitsOfGroups fun j => g[j]) := by
  apply Vector.ext
  intro i hi
  apply BitVec.eq_of_getLsbD_eq
  intro k hk
  rw [blockOfBits_getElem _ hi, BitVec.getLsbD_extractLsb', decide_eq_true hk, Bool.true_and,
    bitsOfGroups_getLsbD _ (by omega), decodedBlockByByte]
  interval_cases i <;> interval_cases k <;>
    simp [getElem_append_5_3, getElem_append_2_5, getElem_append_7_1, getElem_append_4_4, getElem_append_1_5,
      getElem_append_6_2, getElem_append_3_5]

/-- Settles O24: by R151's byte table. -/
theorem b32encResult : Obligations.B32encResult := by
  intro s
  rw [encodedTextByByte_eq]
  exact exec_b32enc s

theorem textGroup_eq {x : Text} {j : Fin 13} {g : BitVec 5} (h : symbolIndex (textChar x j) = some g) :
    textGroup x j = g := by
  rw [textGroup, h]
  rfl

/-- A text of 13 characters whose indices are `g`, the last one even, decodes to the block of `g`. -/
theorem decodeText_of_groups {x : Text} {g : Fin 13 → BitVec 5}
    (hgroups : ∀ j : Fin 13, symbolIndex (textChar x j) = some (g j)) (heven : (g 12).getLsbD 0 = false) :
    decodeText x 13 = .ok (blockOfBits (bitsOfGroups g)) := by
  have hvalid : firstInvalid x = none := firstInvalid_eq_none fun j => by simp [hgroups j]
  have hbits : bitsOfText x = bitsOfGroups g := by
    rw [bitsOfText_eq]
    exact congrArg bitsOfGroups (funext fun j => textGroup_eq (hgroups j))
  have hpad : (bitsOfGroups g).getLsbD 0 = false := by rwa [← hbits, bitsOfText_padBit, textGroup_eq (hgroups 12)]
  simp only [decodeText, hvalid, hbits, hpad, ne_eq, not_true_eq_false, if_false, Bool.false_eq_true]

/-- A text that R152 accepts by its byte list, decoded. -/
theorem decodeText_of_canonical {x : Text} {n : Byte} {g : Vector (BitVec 5) 13} (hlen : n = 13)
    (hgroups : ∀ j : Fin 13, symbolIndex (textChar x j) = some g[j]) (heven : g[12].getLsbD 0 = false) :
    decodeText x n = .ok (decodedBlockByByte g) := by
  rw [hlen, decodedBlockByByte_eq]
  exact decodeText_of_groups hgroups heven

/-- Settles O25: Decode of a canonical text succeeds, with R152's byte list. -/
theorem b32decResult : Obligations.B32decResult :=
  fun _ _ hlen hgroups heven => exec_b32dec_of_decodeText (decodeText_of_canonical hlen hgroups heven)

theorem textBuffer_getElem (t : Vector Byte 13) (j : Fin 13) : textChar (textBuffer t) j = t[j] :=
  Vector.getElem_append_left j.isLt

/-- `TXT[13..15] = 0` after an encode (R154). -/
theorem textBuffer_pad (t : Vector Byte 13) (j : Fin 16) (h : 13 ≤ j.val) : (textBuffer t)[j] = 0 := by
  have hzero : ∀ (k : Nat) (hk : k < 3), #v[0#8, 0#8, 0#8][k] = 0 := by decide
  exact (Vector.getElem_append_right j.isLt h).trans (hzero (j.val - 13) (by omega))

/-- The characters of Encode are the symbols of the groups of the string. -/
theorem encodeText_getElem (b : Block) (j : Fin 13) : (encodeText b)[j] = symbol (groupOf (bitsOfBlock b) j.val) :=
  Vector.getElem_ofFn j.isLt

theorem symbolIndex_symbol (g : BitVec 5) : symbolIndex (symbol g) = some g :=
  (symbolIndex_eq_some_iff _ g).mpr rfl

theorem symbol_mem_alphabet (g : BitVec 5) : symbol g ∈ alphabet.toList := by
  simp [symbol]

/-- Decode undoes Encode (R157). -/
theorem decodeText_encodeText (b : Block) : decodeText (textBuffer (encodeText b)) 13 = .ok b := by
  have hgroups (j : Fin 13) :
      symbolIndex (textChar (textBuffer (encodeText b)) j) = some (groupOf (bitsOfBlock b) j.val) := by
    rw [textBuffer_getElem, encodeText_getElem, symbolIndex_symbol]
  have heven : (groupOf (bitsOfBlock b) 12).getLsbD 0 = false := by
    simpa [groupOf] using bitsOfBlock_padBit b
  rw [decodeText_of_groups hgroups heven, bitsOfGroups_groupOf, blockOfBits_bitsOfBlock]

/-- Every character of a text without an invalid one is the symbol of its group. -/
theorem symbol_textGroup {x : Text} (h : firstInvalid x = none) (j : Fin 13) : symbol (textGroup x j) = textChar x j := by
  have hvalid : symbolIndex (textChar x j) ≠ none := by
    simpa [Option.isSome_iff_ne_none] using List.find?_eq_none.mp h j (List.mem_finRange j)
  obtain ⟨g, hg⟩ := Option.ne_none_iff_exists'.mp hvalid
  rw [textGroup_eq hg]
  exact (symbolIndex_eq_some_iff _ g).mp hg

/-- Encode undoes Decode on what Decode accepts (R157). -/
theorem encodeText_of_decodeText {x : Text} {n : Byte} {b : Block} (h : decodeText x n = .ok b) :
    n = 13 ∧ ∀ j : Fin 13, (encodeText b)[j] = textChar x j := by
  obtain ⟨hlen, hvalid, heven, rfl⟩ := decodeText_ok h
  refine ⟨hlen, fun j => ?_⟩
  rw [encodeText_getElem, bitsOfBlock_blockOfBits heven, bitsOfText_eq, groupOf_bitsOfGroups]
  exact symbol_textGroup hvalid j

/-- Settles O35: Decode and Encode undo one another, and a text is accepted exactly when its groups are canonical. -/
theorem codecIsExact : Obligations.CodecIsExact := by
  refine ⟨decodeText_encodeText, fun _ _ _ => encodeText_of_decodeText, fun x => ⟨?_, ?_⟩⟩
  · rintro ⟨b, h⟩
    obtain ⟨_, hvalid, heven, _⟩ := decodeText_ok h
    rw [bitsOfText_padBit] at heven
    refine ⟨Vector.ofFn (textGroup x), fun j => ?_, by simpa using heven⟩
    rw [← symbol_textGroup hvalid j]
    exact congrArg symbol (Vector.getElem_ofFn j.isLt).symm
  · rintro ⟨g, hchars, heven⟩
    exact ⟨_, decodeText_of_canonical rfl (fun j => (symbolIndex_eq_some_iff _ _).mpr (hchars j).symm) heven⟩

end Sys2Proof.Machine
end

section
/-!
PROOFS, the façade commands (spec/44_facade.md R171 to R173): HPUBID and HTOID, the commands that undo one another, and the
text of HPUBID.
-/

namespace Sys2Proof.Machine

/-- Settles O27: Encode is R151's byte table. -/
theorem hpubidResult : Obligations.HpubidResult := by
  intro s hkey
  rw [encodedTextByByte_eq]
  exact exec_hpubid hkey

/-- Settles O28: the key check passes, and Decode of a canonical text succeeds. -/
theorem htoidResult : Obligations.HtoidResult :=
  fun _ _ hkey hlen hgroups heven => exec_htoid_of_decodeText hkey (decodeText_of_canonical hlen hgroups heven)

theorem encode_eq_keyset_iff (i : Instr) : encode i = 0x00000001#32 ↔ i = .keyset := by
  cases i <;> decide

/-- Acceptance of any command but KEYSET leaves `KEY_VALID` (R200). -/
theorem accept_encode_keyValid {i : Instr} (hi : i ≠ .keyset) (s : State) :
    (accept (encode i) s).status.keyValid = s.status.keyValid :=
  if_neg fun h => hi ((encode_eq_keyset_iff i).mp h)

theorem runCommands_cons {i : Instr} {is : List Instr} {s t : State} (h : runCommand i s = .next t) :
    runCommands (i :: is) s = runCommands is t := by
  simp only [runCommands, h]

/-- The state a successful command starts its destinations from: accepted, and idle again. -/
def afterCommand (i : Instr) (s : State) : State := finish (accept (encode i) s)

theorem runCommand_tobytes (s : State) :
    runCommand .tobytes s = .next { afterCommand .tobytes s with blk := toBytes s.id } :=
  exec_tobytes _

theorem runCommand_frombytes (s : State) :
    runCommand .frombytes s = .next { afterCommand .frombytes s with id := fromBytes s.blk } :=
  exec_frombytes _

theorem runCommand_b32enc (s : State) :
    runCommand .b32enc s = .next { afterCommand .b32enc s with txt := textBuffer (encodeText s.blk), txtLen := 13 } :=
  exec_b32enc _

theorem runCommand_dec {s : State} (h : s.status.keyValid = true) :
    runCommand .dec s = .next { afterCommand .dec s with blk := decryptBlock s.sched s.blk } :=
  exec_dec ((accept_encode_keyValid (i := .dec) (by decide) s).trans h)

theorem runCommand_pubid {s : State} (h : s.status.keyValid = true) :
    runCommand .pubid s = .next { afterCommand .pubid s with
      blk := encryptBlock s.sched (toBytes s.id)
      id := fromBytes (encryptBlock s.sched (toBytes s.id)) } :=
  exec_pubid ((accept_encode_keyValid (i := .pubid) (by decide) s).trans h)

theorem runCommand_hpubid {s : State} (h : s.status.keyValid = true) :
    runCommand .hpubid s = .next { afterCommand .hpubid s with
      blk := encryptBlock s.sched (toBytes s.id)
      txt := textBuffer (encodeText (encryptBlock s.sched (toBytes s.id)))
      txtLen := 13 } :=
  exec_hpubid ((accept_encode_keyValid (i := .hpubid) (by decide) s).trans h)

theorem runCommand_htoid {s : State} {c : Block} (h : s.status.keyValid = true)
    (hdecode : decodeText s.txt s.txtLen = .ok c) :
    runCommand .htoid s = .next { afterCommand .htoid s with
      blk := decryptBlock s.sched c
      id := fromBytes (decryptBlock s.sched c) } :=
  exec_htoid_of_decodeText (s := accept (encode .htoid) s) ((accept_encode_keyValid (by decide) s).trans h) hdecode

/-- DEC and FROMBYTES recover the ID from its encrypted block. -/
theorem runCommands_dec_frombytes {s : State} {x : IdWord} (hkey : s.status.keyValid = true)
    (hblk : s.blk = encryptBlock s.sched (toBytes x)) :
    ∃ t, runCommands [.dec, .frombytes] s = .next t ∧ t.id = x ∧ t.status.err = false := by
  refine ⟨_, (runCommands_cons (runCommand_dec hkey)).trans (runCommands_cons (runCommand_frombytes _)), ?_, rfl⟩
  rw [hblk, decryptBlock_encryptBlock, fromBytes_toBytes]

/-- Settles O37: PUBID leaves in `BLK` the encrypted block, and TOBYTES puts it there again from `ID`. -/
theorem publicIdCommandsInvert : Obligations.PublicIdCommandsInvert := by
  intro s hkey
  have hkept : (afterCommand .pubid s).status.keyValid = true :=
    (accept_encode_keyValid (i := .pubid) (by decide) s).trans hkey
  rw [runCommands_cons (runCommand_pubid hkey), runCommands_cons (runCommand_pubid hkey),
    runCommands_cons (runCommand_tobytes _)]
  constructor
  · refine runCommands_dec_frombytes ((accept_encode_keyValid (i := .tobytes) (by decide) _).trans hkept) ?_
    exact toBytes_fromBytes _
  · exact runCommands_dec_frombytes hkept rfl

/-- Settles O38: each command runs over the bus as it runs alone, and HTOID finds the text that HPUBID left. -/
theorem humanIdRoundTrip : Obligations.HumanIdRoundTrip := by
  intro s es es' hkey hidle hreset hes hes'
  have hkept : (afterCommand .hpubid s).status.keyValid = true :=
    (accept_encode_keyValid (i := .hpubid) (by decide) s).trans hkey
  obtain ⟨r, n, o, hrun⟩ := runSteps_command (cmdWrite (encode .htoid) :: (es' ++ [.engine])) (runCommand_hpubid hkey)
    hidle hreset hes (es'.length + (0 + 1) + 1)
  have hhtoid := runCommand_htoid
    (s := ({ afterCommand .hpubid s with
      blk := encryptBlock s.sched (toBytes s.id)
      txt := textBuffer (encodeText (encryptBlock s.sched (toBytes s.id)))
      txtLen := 13 } : State).withHostFields [] r n o) hkept (decodeText_encodeText _)
  obtain ⟨r', n', o', hrun'⟩ := runSteps_command [] hhtoid rfl hreset hes' 0
  have hlen : es.length + es'.length + 4 = es.length + (es'.length + (0 + 1) + 1 + 1) + 1 := by omega
  have hblk : decryptBlock s.sched (encryptBlock s.sched (toBytes s.id)) = toBytes s.id := decryptBlock_encryptBlock _ _
  refine ⟨_, hlen ▸ hrun.trans hrun', ?_, hblk, rfl, rfl⟩
  exact (congrArg fromBytes hblk).trans (fromBytes_toBytes s.id)

/-- Settles O39: both sequences encode the same block, and Encode writes symbols, then zeros. -/
theorem humanTextShape : Obligations.HumanTextShape := by
  intro s t u hkey ht hu
  rw [runCommand_hpubid hkey] at ht
  rw [runCommands_cons (runCommand_pubid hkey), runCommands_cons (runCommand_tobytes _),
    runCommands_cons (runCommand_b32enc _), runCommands] at hu
  cases ht
  cases hu
  refine ⟨?_, rfl, rfl, fun j => ?_, fun j hj => ?_⟩
  · exact congrArg (fun b => textBuffer (encodeText b)) (toBytes_fromBytes _).symm
  · rw [textBuffer_getElem, encodeText_getElem]
    exact symbol_mem_alphabet _
  · exact textBuffer_pad _ j hj

end Sys2Proof.Machine
end

section
/-!
PROOFS, errors of whole commands (spec/60_exceptions.md R204, spec/40_block_transform.md R102), and what a command's outcome
depends on (spec/44_facade.md R173(c), spec/20_memory.md R63).
-/

namespace Sys2Proof.Machine

/-- Acceptance of KEYSET unbinds the key (R102). -/
theorem accept_keyset_keyValid (s : State) : (accept (encode .keyset) s).status.keyValid = false := by
  rw [accept_status, statusAtAcceptance_keyValid, if_pos ((encode_eq_keyset_iff .keyset).mpr rfl)]

theorem runCommand_keyset_keyValid_iff {s t : State} (h : runCommand .keyset s = .next t) :
    t.status.keyValid = true ↔ t.status.err = false := by
  rcases execKeyset_cases h with ⟨_, rfl⟩ | ⟨_, rfl⟩
  · exact iff_of_true rfl rfl
  · exact iff_of_false (Bool.eq_false_iff.mp (accept_keyset_keyValid s)) (by simp)

theorem runCommand_of_unbound {i : Instr} {s : State} (hneeds : needsKey i = true) (h : s.status.keyValid = false) :
    runCommand i s = .next (finish (raise (.noKey (opcodeOf i)) (accept (encode i) s))) :=
  exec_of_unbound hneeds (accept_keyValid_of_unbound _ h)

/-- A failed KEYSET leaves no key bound, and the registers as they were (R102, R202). -/
theorem runCommand_keyset_of_illegal {s : State} (h : keyLengthLegal s.keyLen = false) :
    ∃ t, runCommand .keyset s = .next t ∧ t.status.keyValid = false ∧
      t.id = s.id ∧ t.blk = s.blk ∧ t.txt = s.txt ∧ t.txtLen = s.txtLen := by
  have hfailed : runCommand .keyset s =
      .next (finish (raise (.invalidKeyLength s.keyLen) (accept (encode .keyset) s))) := execKeyset_of_illegal h
  refine ⟨_, hfailed, ?_, rfl, rfl, rfl, rfl⟩
  rw [finish_status, statusIdle_keyValid, raise_status, statusAfterRaise_keyValid, accept_keyset_keyValid]

/-- Settles O14: the failed KEYSET leaves `KEY_VALID` as acceptance cleared it, and every later check of R206 fails. -/
theorem failedKeysetUnbinds : Obligations.FailedKeysetUnbinds := by
  intro s
  refine ⟨accept_keyset_keyValid s, fun t h => runCommand_keyset_keyValid_iff h, fun i hneeds hillegal => ?_⟩
  obtain ⟨u, hkeyset, hunbound, hkept⟩ := runCommand_keyset_of_illegal ((keyLengthLegal_eq_false s.keyLen).mpr hillegal)
  have hcommand := runCommand_of_unbound hneeds hunbound
  exact ⟨_, (runCommands_cons hkeyset).trans (runCommands_cons hcommand), rfl, rfl, hkept⟩

theorem ne_keyset_of_needsKey {i : Instr} (h : needsKey i = true) : i ≠ .keyset := by
  rintro rfl
  cases h

/-- Settles O17: the causes `exec_cases` lists, from a state that acceptance left without an error. -/
theorem errorCausesByCommand : Obligations.ErrorCausesByCommand := by
  intro i s t h herr
  rcases exec_cases h with ⟨u, rfl, hkept, _⟩ | ⟨e, rfl, ⟨hi, rfl, _⟩ | ⟨hneeds, hkey, rfl⟩ | ⟨hi, hdecode⟩⟩
  · exact absurd (hkept.symm.trans herr) (by simp)
  · exact .inl ⟨hi, rfl⟩
  · exact .inr (.inl ⟨hneeds, rfl, (accept_encode_keyValid (ne_keyset_of_needsKey hneeds) s).symm.trans hkey⟩)
  · refine .inr (.inr ⟨hi.imp_right ?_, ?_⟩)
    · rintro ⟨rfl, hkey⟩
      exact ⟨rfl, (accept_encode_keyValid (by decide) s).symm.trans hkey⟩
    · rcases decodeText_error hdecode with ⟨_, rfl⟩ | ⟨_, _, _, rfl⟩ | ⟨_, _, _, rfl⟩ <;> simp [errorCode]

/-- The pseudocode of a command, before the end of completion: the state it writes, or the error it raises. -/
def execResult (i : Instr) (s : State) : Except CmdError State :=
  match i with
  | .nop => .ok s
  | .keyset =>
    if keyLengthLegal s.snap.keyLen then
      .ok { s with sched := bfSchedule (snapKeyBytes s), status := statusKeyBound s.status }
    else .error (.invalidKeyLength s.snap.keyLen)
  | .tobytes => .ok { s with blk := toBytes s.snap.id }
  | .frombytes => .ok { s with id := fromBytes s.snap.blk }
  | .enc => requireKey 0x20 s (.ok { s with blk := encryptBlock s.sched s.snap.blk })
  | .dec => requireKey 0x21 s (.ok { s with blk := decryptBlock s.sched s.snap.blk })
  | .b32enc => .ok { s with txt := textBuffer (encodeText s.snap.blk), txtLen := 13 }
  | .b32dec => (decodeText s.snap.txt s.snap.txtLen).map fun b => { s with blk := b }
  | .pubid =>
    requireKey 0x40 s (.ok { s with
      blk := encryptBlock s.sched (toBytes s.snap.id)
      id := fromBytes (encryptBlock s.sched (toBytes s.snap.id)) })
  | .hpubid =>
    requireKey 0x41 s (.ok { s with
      blk := encryptBlock s.sched (toBytes s.snap.id)
      txt := textBuffer (encodeText (encryptBlock s.sched (toBytes s.snap.id)))
      txtLen := 13 })
  | .htoid =>
    requireKey 0x42 s ((decodeText s.snap.txt s.snap.txtLen).map fun c =>
      { s with blk := decryptBlock s.sched c, id := fromBytes (decryptBlock s.sched c) })

theorem execResult_keyset_of_legal {s : State} (h : keyLengthLegal s.snap.keyLen = true) :
    execResult .keyset s = .ok { s with sched := bfSchedule (snapKeyBytes s), status := statusKeyBound s.status } :=
  if_pos h

theorem execResult_keyset_of_illegal {s : State} (h : keyLengthLegal s.snap.keyLen = false) :
    execResult .keyset s = .error (.invalidKeyLength s.snap.keyLen) :=
  if_neg (Bool.eq_false_iff.mp h)

/-- A completion is the pseudocode, then the end of completion (R201). -/
theorem exec_eq_complete (i : Instr) (s : State) : exec i s = complete s (execResult i s) := by
  cases i
  case b32dec | htoid =>
    cases hdecode : decodeText s.snap.txt s.snap.txtLen <;>
      simp [exec, execB32dec, execHtoid, execResult, hdecode, Except.map]
  all_goals rfl

/-- Two outcomes of a command's pseudocode with the same error, or with the same `STATUS` and destinations. -/
inductive ResultsAgree (i : Instr) : Except CmdError State → Except CmdError State → Prop
  | ok {u u' : State} (hstatus : u.status = u'.status) (hdest : destinationsAgree i u u') :
      ResultsAgree i (.ok u) (.ok u')
  | error (e : CmdError) : ResultsAgree i (.error e) (.error e)

theorem destinationsAgree_finish {i : Instr} {u u' : State} (h : destinationsAgree i u u') :
    destinationsAgree i (finish u) (finish u') := by
  cases i <;> exact h

theorem complete_agrees {i : Instr} {s s' t t' : State} {r r' : Except CmdError State}
    (hstatus : s.status = s'.status) (hr : ResultsAgree i r r') (h : complete s r = .next t)
    (h' : complete s' r' = .next t') :
    t.status = t'.status ∧ (t.status.err = false → destinationsAgree i t t') := by
  cases hr with
  | ok hst hdest =>
    cases h
    cases h'
    exact ⟨congrArg statusIdle hst, fun _ => destinationsAgree_finish hdest⟩
  | error e =>
    cases h
    cases h'
    exact ⟨congrArg (fun st => statusIdle (statusAfterRaise e st)) hstatus, fun herr => absurd herr (by simp)⟩

theorem requireKey_agrees {i : Instr} {op : Byte} {s s' : State} {body body' : Except CmdError State}
    (hstatus : s.status = s'.status) (hbody : ResultsAgree i body body') :
    ResultsAgree i (requireKey op s body) (requireKey op s' body') := by
  unfold requireKey
  rw [hstatus]
  split
  · exact hbody
  · exact .error _

theorem textChar_eq_of_take_eq {x x' : Text} (h : x.toList.take 13 = x'.toList.take 13) (j : Fin 13) :
    textChar x j = textChar x' j := by
  have hj : j.val < 16 := by omega
  have hchar := congrArg (fun l => l[j.val]?) h
  simpa [List.getElem?_take, hj, textChar] using hchar

/-- Decode reads 13 characters of the text. -/
theorem decodeText_congr {x x' : Text} (h : x.toList.take 13 = x'.toList.take 13) (n : Byte) :
    decodeText x n = decodeText x' n := by
  have hchars : textChar x = textChar x' := funext (textChar_eq_of_take_eq h)
  have hfirst : firstInvalid x = firstInvalid x' := by simp only [firstInvalid, hchars]
  have hbits : bitsOfText x = bitsOfText x' := by
    rw [bitsOfText_eq, bitsOfText_eq]
    exact congrArg bitsOfGroups (funext fun j => by simp only [textGroup, hchars])
  simp only [decodeText, hfirst, hbits]

theorem statusAtAcceptance_congr {st st' : Status} (v : Word) (h : st.keyValid = st'.keyValid) :
    statusAtAcceptance v st = statusAtAcceptance v st' := by
  simp [statusAtAcceptance, statusErrorCleared, h]

theorem map_agrees {α : Type} {i : Instr} {f f' : α → State} (r : Except CmdError α)
    (hstatus : ∀ a, (f a).status = (f' a).status) (hdest : ∀ a, destinationsAgree i (f a) (f' a)) :
    ResultsAgree i (r.map f) (r.map f') := by
  cases r with
  | ok a => exact .ok (hstatus a) (hdest a)
  | error e => exact .error e

/-- From states that agree on what R73 lists, a command's pseudocode has agreeing outcomes. -/
theorem execResult_agrees {i : Instr} {s s' : State} (v : Word) (h : operandsAgree i s s') :
    ResultsAgree i (execResult i (accept v s)) (execResult i (accept v s')) := by
  obtain ⟨hkey, hoperands⟩ := h
  have hstatus : (accept v s).status = (accept v s').status := statusAtAcceptance_congr v hkey
  cases i with
  | nop => exact .ok hstatus trivial
  | keyset =>
    obtain ⟨hlen, hbytes⟩ := hoperands
    have hsched : bfSchedule (snapKeyBytes (accept v s)) = bfSchedule (snapKeyBytes (accept v s')) := by
      simp only [snapKeyBytes, accept_snap, snapshotOf, hbytes, ← hlen]
    have hsnapLen : (accept v s).snap.keyLen = (accept v s').snap.keyLen := hlen
    cases hlegal : keyLengthLegal (accept v s').snap.keyLen with
    | true =>
      rw [execResult_keyset_of_legal hlegal, execResult_keyset_of_legal (hsnapLen ▸ hlegal)]
      exact .ok (congrArg statusKeyBound hstatus) hsched
    | false =>
      rw [execResult_keyset_of_illegal hlegal, execResult_keyset_of_illegal (hsnapLen ▸ hlegal), hsnapLen]
      exact .error _
  | tobytes => exact .ok hstatus (congrArg toBytes hoperands)
  | frombytes => exact .ok hstatus (congrArg fromBytes hoperands)
  | enc =>
    obtain ⟨hblk, hsched⟩ := hoperands
    exact requireKey_agrees hstatus (.ok hstatus (congrArg₂ encryptBlock hsched hblk))
  | dec =>
    obtain ⟨hblk, hsched⟩ := hoperands
    exact requireKey_agrees hstatus (.ok hstatus (congrArg₂ decryptBlock hsched hblk))
  | b32enc => exact .ok hstatus ⟨congrArg (fun b => textBuffer (encodeText b)) hoperands, rfl⟩
  | b32dec =>
    obtain ⟨hlen, hchars⟩ := hoperands
    have hdecode : decodeText s.txt s.txtLen = decodeText s'.txt s'.txtLen := hlen ▸ decodeText_congr hchars _
    simp only [execResult, accept_snap, snapshotOf, hdecode]
    exact map_agrees _ (fun _ => hstatus) fun _ => rfl
  | pubid =>
    obtain ⟨hid, hsched⟩ := hoperands
    have hblk : encryptBlock s.sched (toBytes s.id) = encryptBlock s'.sched (toBytes s'.id) := by rw [hid, hsched]
    exact requireKey_agrees hstatus (.ok hstatus ⟨hblk, congrArg fromBytes hblk⟩)
  | hpubid =>
    obtain ⟨hid, hsched⟩ := hoperands
    have hblk : encryptBlock s.sched (toBytes s.id) = encryptBlock s'.sched (toBytes s'.id) := by rw [hid, hsched]
    exact requireKey_agrees hstatus (.ok hstatus ⟨hblk, congrArg (fun b => textBuffer (encodeText b)) hblk, rfl⟩)
  | htoid =>
    obtain ⟨hlen, hchars, hsched⟩ := hoperands
    have hdecode : decodeText s.txt s.txtLen = decodeText s'.txt s'.txtLen := hlen ▸ decodeText_congr hchars _
    simp only [execResult, accept_snap, snapshotOf, accept_sched, hdecode, hsched]
    exact requireKey_agrees hstatus (map_agrees _ (fun _ => hstatus) fun _ => ⟨rfl, rfl⟩)

/-- Settles O40: acceptance leaves agreeing states, and the pseudocode keeps the agreement. -/
theorem resultsDependOnOperandsOnly : Obligations.ResultsDependOnOperandsOnly := by
  intro i s s' t t' hagree h h'
  have ⟨hkey, _⟩ := hagree
  rw [runCommand, exec_eq_complete] at h h'
  exact complete_agrees (statusAtAcceptance_congr _ hkey) (execResult_agrees _ hagree) h h'

/-- `s` with another key buffer and length, in the registers and in the snapshot. -/
def State.withKey (s : State) (key : KeyBytes) (n : Byte) : State :=
  { s with key := key, keyLen := n, snap := { s.snap with key := key, keyLen := n } }

theorem complete_withKey {s t : State} {r : Except CmdError State} (key : KeyBytes) (n : Byte)
    (h : complete s r = .next t) :
    complete (s.withKey key n) (r.map (State.withKey · key n)) = .next (t.withKey key n) := by
  cases r <;> cases h <;> rfl

theorem requireKey_withKey (op : Byte) (s : State) (body : Except CmdError State) (key : KeyBytes) (n : Byte) :
    requireKey op (s.withKey key n) (body.map (State.withKey · key n)) =
      (requireKey op s body).map (State.withKey · key n) := by
  cases hkey : s.status.keyValid with
  | true =>
    rw [requireKey_of_valid hkey]
    exact requireKey_of_valid hkey
  | false =>
    rw [requireKey_of_unbound hkey]
    exact requireKey_of_unbound hkey

/-- No pseudocode but KEYSET's reads or writes the key buffer and its length (R63). -/
theorem execResult_withKey {i : Instr} (hi : i ≠ .keyset) (s : State) (key : KeyBytes) (n : Byte) :
    execResult i (s.withKey key n) = (execResult i s).map (State.withKey · key n) := by
  cases i
  case keyset => exact absurd rfl hi
  case nop | tobytes | frombytes | b32enc => rfl
  case enc | dec | pubid | hpubid =>
    rw [execResult, execResult, ← requireKey_withKey]
    rfl
  case b32dec =>
    cases hdecode : decodeText s.snap.txt s.snap.txtLen <;> simp [execResult, State.withKey, hdecode, Except.map]
  case htoid =>
    rw [execResult, execResult, ← requireKey_withKey]
    cases hdecode : decodeText s.snap.txt s.snap.txtLen <;> simp [State.withKey, hdecode, Except.map]

/-- Settles O59: acceptance copies the key into the snapshot, where the command leaves it. -/
theorem keyCoherence : Obligations.KeyCoherence := by
  intro i s t key n hi h
  rw [runCommand, exec_eq_complete] at h ⊢
  have hresult := execResult_withKey hi (accept (encode i) s) key n
  exact (congrArg (complete _) hresult).trans (complete_withKey key n h)

end Sys2Proof.Machine
end

section
/-!
PROOFS, the register window (spec/20_memory.md R51, R52, R54): what reads and writes of an idle core do, register by register,
and the bits of `STATUS` (spec/10_state.md R29, R30).
-/

namespace Sys2Proof.Machine

open Sys2Proof.Laws

/-- Bit `i` of `STATUS` by R29: the fields from bit 0 up, and 0 in the reserved bits. -/
def statusBit (st : Status) (i : Nat) : Bool :=
  if i < 4 then [st.busy, st.err, st.keyValid, st.ovr].getD i false
  else if 8 ≤ i ∧ i < 12 then (errCodeBits st.errCode).getLsbD (i - 8)
  else if 16 ≤ i ∧ i < 24 then st.errInfo.getLsbD (i - 16)
  else false

/-- The concatenation holds those bits. -/
theorem statusWord_getLsbD (st : Status) (i : Nat) (hi : i < 32) : (statusWord st).getLsbD i = statusBit st i := by
  rw [statusWord, statusBit]
  interval_cases i <;>
    simp [getElem_append_31_1, getElem_append_30_1, getElem_append_29_1, getElem_append_28_1, getElem_append_24_4,
      getElem_append_20_4, getElem_append_16_4, getElem_append_8_8]

/-- A field of `STATUS` from its bits. -/
theorem statusWord_extractLsb' (st : Status) {a n : Nat} (ha : a + n ≤ 32) {x : BitVec n}
    (h : ∀ j, j < n → x.getLsbD j = statusBit st (a + j)) : (statusWord st).extractLsb' a n = x := by
  apply BitVec.eq_of_getLsbD_eq
  intro j hj
  rw [h j hj, BitVec.getLsbD_extractLsb', statusWord_getLsbD st _ (by omega), decide_eq_true hj, Bool.true_and]

theorem errCodeBits_lt (c : ErrCode) : (errCodeBits c).toNat < 7 := by
  cases c <;> decide

/-- Settles O41: each field is a stretch of R29's bits. -/
theorem statusLayout : Obligations.StatusLayout := by
  refine ⟨fun st => ?_, rfl, rfl, rfl, rfl, rfl, rfl, rfl⟩
  refine ⟨statusWord_getLsbD st 0 (by decide), statusWord_getLsbD st 1 (by decide), statusWord_getLsbD st 2 (by decide),
    statusWord_getLsbD st 3 (by decide), ?_, ?errCode, ?_, ?errInfo, ?_, errCodeBits_lt _⟩
  case errCode =>
    refine statusWord_extractLsb' st (by decide) fun j hj => ?_
    rw [statusBit, if_neg (by omega), if_pos (by omega), Nat.add_sub_cancel_left]
  case errInfo =>
    refine statusWord_extractLsb' st (by decide) fun j hj => ?_
    rw [statusBit, if_neg (by omega), if_neg (by omega), if_pos (by omega), Nat.add_sub_cancel_left]
  all_goals
    refine statusWord_extractLsb' st (by decide) fun j hj => ?_
    rw [statusBit, if_neg (by omega), if_neg (by omega), if_neg (by omega)]
    exact BitVec.getLsbD_zero

theorem hostRead_idle {s : State} {off : BitVec 7} {r : Reg} (haligned : off.toNat % 4 = 0) (hreset : s.resetHeld = false)
    (hidle : s.status.busy = false) (hreg : regAt off = r) : hostRead off 4 s = answer (some (readReg s r)) false s := by
  simp [hostRead, accessOk_of_aligned haligned, hreset, hidle, hreg]

/-- An aligned write to any register but `CMD`, while idle and out of reset (R52). -/
theorem hostWrite_idle {s : State} {off : BitVec 7} {r : Reg} (v : Word) (haligned : off.toNat % 4 = 0)
    (hreset : s.resetHeld = false) (hidle : s.status.busy = false) (hreg : regAt off = r) (hcmd : r ≠ .cmd) :
    hostWrite off 4 v s = answer none false (storeReg s r v) := by
  simp [hostWrite, accessOk_of_aligned haligned, hreset, hidle, hreg, writeReg, hcmd]

/-- The `TXT` slots (R20). -/
theorem regAt_txt : ∀ k : Fin 4,
    (BitVec.ofNat 7 (0x20 + 4 * k.val)).toNat % 4 = 0 ∧ regAt (BitVec.ofNat 7 (0x20 + 4 * k.val)) = .txt k := by
  decide

/-- A word of a buffer by its bytes (R54). -/
theorem wordAt_eq {n : Nat} (b : Vector Byte n) (k : Nat) (h : 4 * k + 3 < n) :
    wordAt b k = b[4 * k + 3] ++ b[4 * k + 2] ++ b[4 * k + 1] ++ b[4 * k] := by
  simp [wordAt, byteAt, h, show 4 * k + 2 < n by omega, show 4 * k + 1 < n by omega, show 4 * k < n by omega]

theorem setWidth_byte (b : Byte) : b.setWidth 32 = 0#24 ++ b := by
  simp [BitVec.setWidth_eq_append]

/-- Settles O42: slot by slot, the value of the register there. -/
theorem idleReads : Obligations.IdleReads := by
  intro s hreset hidle
  have hread {off : BitVec 7} {r : Reg} (haligned : off.toNat % 4 = 0) (hreg : regAt off = r) :
      hostRead off 4 s = answer (some (readReg s r)) false s := hostRead_idle haligned hreset hidle hreg
  refine ⟨hread (r := .cmd) rfl rfl, hread (r := .status) rfl rfl, ?keyLen, ?txtLen, hread (r := .idLo) rfl rfl,
    hread (r := .idHi) rfl rfl, ?blkLo, ?blkHi, fun k => ?txt, hread (r := .version) rfl rfl, fun k => ?key,
    fun off hoff => ?rsvd⟩
  case keyLen =>
    rw [← setWidth_byte]
    exact hread (r := .keyLen) rfl rfl
  case txtLen =>
    rw [← setWidth_byte]
    exact hread (r := .txtLen) rfl rfl
  case blkLo =>
    rw [← wordAt_eq s.blk 0 (by decide)]
    exact hread (r := .blkLo) rfl rfl
  case blkHi =>
    rw [← wordAt_eq s.blk 1 (by decide)]
    exact hread (r := .blkHi) rfl rfl
  case txt =>
    obtain ⟨haligned, hreg⟩ := regAt_txt k
    rw [← wordAt_eq s.txt k.val (by omega)]
    exact hread haligned hreg
  case key =>
    obtain ⟨haligned, hreg⟩ := regAt_key k
    exact hread haligned hreg
  case rsvd =>
    have hslot : ∀ o ∈ [0x34#7, 0x38#7, 0x3C#7, 0x78#7, 0x7C#7], o.toNat % 4 = 0 ∧ regAt o = .rsvd := by decide
    obtain ⟨haligned, hreg⟩ := hslot off hoff
    exact hread haligned hreg

/-- A byte of a buffer after a write of word `k` (R54). -/
theorem putWordAt_getElem {n : Nat} (b : Vector Byte n) (k : Nat) (v : Word) (j : Nat) (hj : j < n) :
    (putWordAt b k v)[j] = if j / 4 = k then v.extractLsb' (8 * (j % 4)) 8 else b[j] := by
  have hbytes : (putWordAt b k v)[j] =
      if 4 * k + 3 = j then lane v 3
      else if 4 * k + 2 = j then lane v 2
      else if 4 * k + 1 = j then lane v 1
      else if 4 * k = j then lane v 0
      else b[j] := by
    simp only [putWordAt, Vector.getElem_setIfInBounds]
  rw [hbytes]
  by_cases hword : j / 4 = k
  · rw [if_pos hword]
    have hlane : j = 4 * k + j % 4 := by omega
    have hm : j % 4 < 4 := Nat.mod_lt _ (by decide)
    generalize j % 4 = m at hlane hm
    subst hlane
    interval_cases m <;> simp [lane]
  · rw [if_neg hword, if_neg (by omega), if_neg (by omega), if_neg (by omega), if_neg (by omega)]

/-- Settles O43: slot by slot, what the register there stores. -/
theorem idleWrites : Obligations.IdleWrites := by
  intro s v hreset hidle
  have hwrite {off : BitVec 7} {r : Reg} (haligned : off.toNat % 4 = 0) (hreg : regAt off = r) (hcmd : r ≠ .cmd) :
      hostWrite off 4 v s = answer none false (storeReg s r v) := hostWrite_idle v haligned hreset hidle hreg hcmd
  refine ⟨hwrite (r := .keyLen) rfl rfl (by decide), hwrite (r := .txtLen) rfl rfl (by decide),
    hwrite (r := .idLo) rfl rfl (by decide), hwrite (r := .idHi) rfl rfl (by decide),
    ⟨putWordAt s.blk 0 v, hwrite (r := .blkLo) rfl rfl (by decide), fun i => ?blkLo⟩,
    ⟨putWordAt s.blk 1 v, hwrite (r := .blkHi) rfl rfl (by decide), fun i => ?blkHi⟩,
    fun k => ⟨putWordAt s.txt k.val v, ?txt, fun j => putWordAt_getElem s.txt k.val v j.val j.isLt⟩,
    fun k => ⟨putWordAt s.key k.val v, ?key, fun j => putWordAt_getElem s.key k.val v j.val j.isLt⟩,
    fun off hoff => ?ignored⟩
  case blkLo =>
    refine (putWordAt_getElem s.blk 0 v i.val i.isLt).trans ?_
    by_cases hi : i.val < 4
    · rw [if_pos hi, if_pos (by omega), Nat.mod_eq_of_lt hi]
    · rw [if_neg hi, if_neg (by omega)]
      rfl
  case blkHi =>
    refine (putWordAt_getElem s.blk 1 v i.val i.isLt).trans ?_
    by_cases hi : i.val < 4
    · rw [if_pos hi, if_neg (by omega)]
      rfl
    · rw [if_neg hi, if_pos (by omega), show i.val % 4 = i.val - 4 by omega]
  case txt =>
    obtain ⟨haligned, hreg⟩ := regAt_txt k
    exact hwrite haligned hreg (by simp)
  case key =>
    obtain ⟨haligned, hreg⟩ := regAt_key k
    exact hwrite haligned hreg (by simp)
  case ignored =>
    have hslot : ∀ o ∈ [0x04#7, 0x30#7, 0x34#7, 0x38#7, 0x3C#7, 0x78#7, 0x7C#7],
        o.toNat % 4 = 0 ∧ (regAt o = .status ∨ regAt o = .version ∨ regAt o = .rsvd) := by decide
    obtain ⟨haligned, hreg | hreg | hreg⟩ := hslot off hoff <;> exact hwrite haligned hreg (by decide)

/-- A register's value right after a write of `v` to it: the registers that store it (R22 to R25), and the others. -/
def readBack (s : State) (r : Reg) (v : Word) : Word :=
  match r with
  | .keyLen => v &&& 0xFF#32
  | .txtLen => v &&& 0xFF#32
  | .idLo => v
  | .idHi => v
  | .blkLo => v
  | .blkHi => v
  | .txt _ => v
  | .cmd => readReg s .cmd
  | .status => readReg s .status
  | .version => readReg s .version
  | .key k => readReg s (.key k)
  | .rsvd => readReg s .rsvd

/-- A length register stores the low 8 bits of a word (R25, R27). -/
theorem setWidth_lowByte (v : Word) : (v.extractLsb' 0 8).setWidth 32 = v &&& 0xFF#32 := by
  apply BitVec.eq_of_getLsbD_eq
  intro i hi
  simp only [BitVec.getLsbD_setWidth, BitVec.getLsbD_extractLsb', BitVec.getLsbD_and]
  interval_cases i <;> simp

theorem readReg_storeReg_self (s : State) (r : Reg) (v : Word) : readReg (storeReg s r v) r = readBack s r v := by
  cases r with
  | keyLen | txtLen => exact setWidth_lowByte v
  | idLo =>
    obtain ⟨hlo, _⟩ := idHalves_append (s.id.extractLsb' 32 32) v
    exact hlo
  | idHi =>
    obtain ⟨_, hhi⟩ := idHalves_append v (s.id.extractLsb' 0 32)
    exact hhi
  | blkLo => exact (wordAt_putWordAt s.blk 0 0 v (by decide) (by decide)).trans (if_pos rfl)
  | blkHi => exact (wordAt_putWordAt s.blk 1 1 v (by decide) (by decide)).trans (if_pos rfl)
  | txt k => exact (wordAt_putWordAt s.txt k.val k.val v (by omega) (by omega)).trans (if_pos rfl)
  | cmd | status | version | rsvd | key k => rfl

/-- A register's value after a write to another one: only the halves of `ID` and the words of one buffer share a field. -/
theorem readReg_storeReg_ne {r r' : Reg} (s : State) (v : Word) (h : r ≠ r') :
    readReg (storeReg s r v) r' = readReg s r' := by
  cases r with
  | cmd | status | version | rsvd => rfl
  | key k => cases r' <;> simp only [readReg, storeReg]
  | keyLen =>
    cases r' with
    | keyLen => exact absurd rfl h
    | _ => simp only [readReg, storeReg]
  | txtLen =>
    cases r' with
    | txtLen => exact absurd rfl h
    | _ => simp only [readReg, storeReg]
  | idLo =>
    cases r' with
    | idLo => exact absurd rfl h
    | idHi =>
      obtain ⟨_, hhi⟩ := idHalves_append (s.id.extractLsb' 32 32) v
      exact hhi
    | _ => simp only [readReg, storeReg]
  | idHi =>
    cases r' with
    | idHi => exact absurd rfl h
    | idLo =>
      obtain ⟨hlo, _⟩ := idHalves_append v (s.id.extractLsb' 0 32)
      exact hlo
    | _ => simp only [readReg, storeReg]
  | blkLo =>
    cases r' with
    | blkLo => exact absurd rfl h
    | blkHi => exact (wordAt_putWordAt s.blk 0 1 v (by decide) (by decide)).trans (if_neg (by decide))
    | _ => simp only [readReg, storeReg]
  | blkHi =>
    cases r' with
    | blkHi => exact absurd rfl h
    | blkLo => exact (wordAt_putWordAt s.blk 1 0 v (by decide) (by decide)).trans (if_neg (by decide))
    | _ => simp only [readReg, storeReg]
  | txt k =>
    cases r' with
    | txt k' =>
      have hk : k.val ≠ k'.val := fun e => h (congrArg Reg.txt (Fin.ext e))
      exact (wordAt_putWordAt s.txt k.val k'.val v (by omega) (by omega)).trans (if_neg hk)
    | _ => simp only [readReg, storeReg]

/-- Of the aligned offsets, only the reserved ones share a register (R20, R34). -/
theorem offsetOf_regAt : ∀ off : BitVec 7, off.toNat % 4 = 0 → regAt off ≠ .rsvd → offsetOf (regAt off) = off := by
  decide

/-- A write at one offset leaves what a read at another returns. -/
theorem readReg_storeReg_regAt_ne {off off' : BitVec 7} (s : State) (v : Word) (haligned : off.toNat % 4 = 0)
    (haligned' : off'.toNat % 4 = 0) (hne : off ≠ off') :
    readReg (storeReg s (regAt off) v) (regAt off') = readReg s (regAt off') := by
  by_cases hrsvd : regAt off = .rsvd
  · rw [hrsvd, storeReg_rsvd]
  · refine readReg_storeReg_ne s v fun hsame => hne ?_
    rw [← offsetOf_regAt off haligned hrsvd, hsame, offsetOf_regAt off' haligned' (hsame ▸ hrsvd)]

/-- No register shows the pending events or the last bus response. -/
theorem readReg_inbox_reply (s : State) (r : Reg) (es : List Event) (reply : Option Reply) :
    readReg { s with inbox := es, reply := reply } r = readReg s r := by
  cases r <;> simp only [readReg]

theorem storeReg_inbox (s : State) (r : Reg) (v : Word) (es : List Event) :
    storeReg { s with inbox := es } r v = { storeReg s r v with inbox := es } := by
  cases r <;> simp only [storeReg]

/-- An aligned write, then an aligned read, over the bus of an idle core. -/
theorem runSteps_write_read {s : State} {off off' : BitVec 7} (v : Word) (hreset : s.resetHeld = false)
    (hidle : s.status.busy = false) (haligned : off.toNat % 4 = 0) (haligned' : off'.toNat % 4 = 0) (hoff : off ≠ 0) :
    ∃ t, runSteps 2 { s with inbox := [.write (.offset off) 4 v, .read (.offset off') 4] } = .next t ∧
      t.reply = some { data := some (readReg (storeReg s (regAt off) v) (regAt off')), busError := false } := by
  have hcmd : regAt off ≠ .cmd := fun h => hoff ((regAt_eq_cmd off haligned).mp h)
  have hwrite : step { s with inbox := [.write (.offset off) 4 v, .read (.offset off') 4] } =
      .next (answer none false { storeReg s (regAt off) v with inbox := [.read (.offset off') 4] }) := by
    rw [← storeReg_inbox]
    exact congrArg Host.Outcome.next (hostWrite_idle (s := { s with inbox := [.read (.offset off') 4] }) v haligned hreset
      hidle rfl hcmd)
  have hread : step (answer none false { storeReg s (regAt off) v with inbox := [.read (.offset off') 4] }) =
      .next (hostRead off' 4 (answer none false { storeReg s (regAt off) v with inbox := [] })) := rfl
  refine ⟨_, (runSteps_succ hwrite).trans (runSteps_succ hread), ?_⟩
  have hshown : readReg (answer none false { storeReg s (regAt off) v with inbox := [] }) (regAt off') =
      readReg (storeReg s (regAt off) v) (regAt off') := readReg_inbox_reply _ _ _ _
  rw [hostRead_idle haligned' (by simpa using hreset) (by simpa using hidle) rfl, answer_reply, hshown]

/-- Settles O44: the read returns the register's value after the store, at the same offset or at another. -/
theorem writeThenRead : Obligations.WriteThenRead := by
  intro s t off off' v hreset hidle haligned haligned' hoff h
  obtain ⟨u, hu, hreply⟩ := runSteps_write_read v hreset hidle haligned haligned' hoff
  obtain rfl : u = t := Host.Outcome.next.inj (hu.symm.trans h)
  rw [hreply]
  by_cases hsame : off = off'
  · subst hsame
    rw [if_pos rfl, readReg_storeReg_self]
    generalize regAt off = r
    cases r <;> rfl
  · rw [if_neg hsame, readReg_storeReg_regAt_ne s v haligned haligned' hsame]

/-- Settles O48: a read transaction writes `reply` and `draws` alone. -/
theorem readsChangeNothing : Obligations.ReadsChangeNothing := by
  intro s t a width rest hinbox h
  rw [step_cons hinbox] at h
  obtain ⟨r, n, heq⟩ := serveRead_eq a width { s with inbox := rest }
  cases (congrArg Host.Outcome.next heq).symm.trans h
  rfl

theorem base_mod : Config.base % 0x80 = 0 := Nat.mul_mod_right _ _

theorem offsetOfAddress_base_add (off : BitVec 7) : offsetOfAddress (Config.base + off.toNat) = some off := by
  have hin : Config.base ≤ Config.base + off.toNat ∧ Config.base + off.toNat < Config.base + 0x80 := by
    have := off.isLt
    omega
  rw [offsetOfAddress, if_pos hin, Nat.add_sub_cancel_left, BitVec.ofNat_toNat, BitVec.setWidth_eq]

theorem offsetOfAddress_outside {a : Nat} (h : a < Config.base ∨ Config.base + 0x80 ≤ a) : offsetOfAddress a = none :=
  if_neg (by omega)

/-- Settles O49: an address reaches the core only where `a - BASE` is an offset. -/
theorem windowAddresses : Obligations.WindowAddresses := by
  intro s a width v
  refine ⟨base_mod, fun off ha => ?_, fun ha => ?_⟩
  · subst ha
    simp only [serveWrite, serveRead, targetOffset, offsetOfAddress_base_add, and_self]
  · simp only [serveWrite, serveRead, targetOffset, offsetOfAddress_outside ha, and_self]

/-- `s` with other key material: the key buffer, the schedule and the key of the snapshot. -/
def State.withKeyMaterial (s : State) (key : KeyBytes) (k : Schedule) (snapKey : KeyBytes) : State :=
  { s with key := key, sched := k, snap := { s.snap with key := snapKey } }

@[simp] theorem withKeyMaterial_resetHeld (s : State) (key : KeyBytes) (k : Schedule) (snapKey : KeyBytes) :
    (s.withKeyMaterial key k snapKey).resetHeld = s.resetHeld := rfl
@[simp] theorem withKeyMaterial_status (s : State) (key : KeyBytes) (k : Schedule) (snapKey : KeyBytes) :
    (s.withKeyMaterial key k snapKey).status = s.status := rfl

theorem readReg_withKeyMaterial (s : State) (r : Reg) (key : KeyBytes) (k : Schedule) (snapKey : KeyBytes) :
    readReg (s.withKeyMaterial key k snapKey) r = readReg s r := by
  cases r <;> simp only [readReg, State.withKeyMaterial]

/-- A read passes the key material through unread. -/
theorem hostRead_withKeyMaterial (off : BitVec 7) (width : Nat) (s : State) (key : KeyBytes) (k : Schedule)
    (snapKey : KeyBytes) : hostRead off width (s.withKeyMaterial key k snapKey) =
      (hostRead off width s).withKeyMaterial key k snapKey := by
  unfold hostRead
  simp only [withKeyMaterial_resetHeld, withKeyMaterial_status, readReg_withKeyMaterial]
  split_ifs <;> rfl

theorem serveRead_withKeyMaterial (a : Target) (width : Nat) (s : State) (key : KeyBytes) (k : Schedule)
    (snapKey : KeyBytes) : serveRead a width (s.withKeyMaterial key k snapKey) =
      (serveRead a width s).withKeyMaterial key k snapKey := by
  unfold serveRead
  cases targetOffset a with
  | none => rfl
  | some off => exact hostRead_withKeyMaterial off width s key k snapKey

/-- Settles O50: the two reads differ in the key material alone. -/
theorem keyMaterialUnreadable : Obligations.KeyMaterialUnreadable := by
  intro s t t' key snapKey k a width rest hinbox h h'
  rw [step_cons hinbox] at h
  rw [step_cons (s := { s with key := key, sched := k, snap := { s.snap with key := snapKey } }) hinbox] at h'
  have heq := serveRead_withKeyMaterial a width { s with inbox := rest } key k snapKey
  cases h
  cases (congrArg Host.Outcome.next heq).symm.trans h'
  exact ⟨rfl, rfl⟩

theorem statusWord_reset : statusWord .reset = 0 := by decide

/-- While reset is held (R230). -/
theorem hostWrite_reset {s : State} {off : BitVec 7} (v : Word) (haligned : off.toNat % 4 = 0)
    (hreset : s.resetHeld = true) : hostWrite off 4 v s = answer none false s := by
  simp [hostWrite, accessOk_of_aligned haligned, hreset]

theorem hostRead_reset {s : State} {off : BitVec 7} (haligned : off.toNat % 4 = 0) (hreset : s.resetHeld = true) :
    hostRead off 4 s = answer (some 0) false s := by
  simp [hostRead, accessOk_of_aligned haligned, hreset]

/-- Settles O51: the assertion's values are written out, and the reset input is looked at before `BUSY`. -/
theorem resetBehaviour : Obligations.ResetBehaviour := by
  intro s
  refine ⟨fun rest hinbox => ⟨_, step_cons hinbox, rfl, rfl, rfl, rfl, rfl, rfl, statusWord_reset, rfl, rfl⟩,
    fun off v hreset haligned => ⟨hostWrite_reset v haligned hreset, hostRead_reset haligned hreset⟩,
    fun rest hinbox => step_cons hinbox⟩

end Sys2Proof.Machine
end
